-- ==== Sys2Proof/Word.lean ====
section
/-! DEFINITION. The byte and word types of the CX96's trunk formats (chapter 1) and their plainest arithmetic.
Byte order, saturating counters and the check code stand in files under Machine/. -/

namespace Sys2Proof

/-- One byte of a trunk frame (R1). -/
abbrev Byte := BitVec 8

/-- A two-byte field: a serial, a timeout, a lease, a check code. -/
abbrev Word16 := BitVec 16

/-- A four-byte field: a counter, the tick count, a deadline. -/
abbrev Word32 := BitVec 32

/-- A program slot's number, 0 to 7 (R43). -/
abbrev SlotIndex := Fin 8

/-- A match entry's index, 0 to 47 (R23). -/
abbrev EntryIndex := Fin 48

/-- A context's index, 0 to 95 (R66). -/
abbrev ContextIndex := Fin 96

/-- A transition position of a program image, 0 to 47 (R53). -/
abbrev Position := Fin 48

/-- A state of a watch program, 0 to 15 (R50). -/
abbrev StateIndex := Fin 16

end Sys2Proof
end

