-- ==== Sys2Proof/Syntax.lean ====
section
/-! DEFINITION. The commands of the CX96: one constructor for each row of spec/opcode_table.json, in the table's order,
with the operands the rule of the row speaks of. A command is one happening that the world, the time base or a block
brings to the part (00_scope.md, "Happenings"). The table gives no row any bits. -/

namespace Sys2Proof

/-- The two trunk ports (chapter 1). -/
inductive Port where
  | a | b
  deriving DecidableEq, Repr

/-- The port a transit frame received here is bound for (section 1.4). -/
def Port.other : Port → Port
  | .a => .b
  | .b => .a

/-- A protected item whose check code can fail at a read: R34's location kinds with their index. -/
inductive Location where
  | matchEntry (i : EntryIndex)
  | program (k : SlotIndex)
  | context (i : ContextIndex)
  deriving DecidableEq, Repr

/-- The item whose check code the memory fails in this happening, if any: "Whether a given read fails is decided by the
memory, not by anything a frame or a manager does" (section 2.4), so it is an operand. It acts only where the happening
reads the item (R34). -/
abbrev Damage := Option Location

/-- A management request as the unit takes it (R153), its request code being the row's own: the arrival port, the
requester, the frame's sequence, the tag and the parameters. -/
structure Call where
  port : Port
  source : Byte
  sequence : BitVec 4
  tag : Byte
  params : List Byte
  deriving DecidableEq, Repr

/-- Who takes a tick (R113): the time base counts it, and the management unit and the report unit each take it as a
happening of their own. The watch engine's taking of a tick is EXPIRY, one for each due context (R116). -/
inductive TickTaker where
  | timeBase | managementUnit | reportUnit
  deriving DecidableEq, Repr

/-- The commands, one for each row of spec/opcode_table.json. -/
inductive Instr where
  /-- R170: power is applied. -/
  | powerOn
  /-- R170: the RESET line is asserted. -/
  | resetLineAsserted
  /-- R170: the RESET line is released. -/
  | resetLineReleased
  /-- R11: a port senses its link. -/
  | linkUp (p : Port)
  /-- R9: a port loses its link. -/
  | linkDown (p : Port)
  /-- R4: the signalling marks the end of a frame; `bytes` is the frame as received. -/
  | endOfReception (p : Port) (bytes : List Byte) (damage : Damage)
  /-- R15: a port has sent its frame. -/
  | endOfTransmission (p : Port)
  /-- R112, R113: one block takes a tick. -/
  | tick (taker : TickTaker)
  /-- R116: the watch engine takes the expiry of a due context. -/
  | expiry (i : ContextIndex) (damage : Damage)
  /-- R164: the management unit takes the tick at which the lease runs out. -/
  | leaseRunOut
  /-- R146: the report unit takes the tick at which the retry timer runs out. -/
  | retryTimerRunOut
  /-- R149: the report unit takes the tick at which the gap timer runs out. -/
  | gapTimerRunOut
  /-- R143: the report unit takes an assembly. -/
  | assembly
  /-- R178: a drain completes. -/
  | drainCompletion
  /-- R169. -/
  | identify (c : Call)
  /-- R165. -/
  | claim (c : Call)
  /-- R166. -/
  | release (c : Call)
  /-- R157. -/
  | setAddress (c : Call)
  /-- R160. -/
  | setManagers (c : Call)
  /-- R171. -/
  | restart (c : Call)
  /-- R39. -/
  | setMode (c : Call)
  /-- R40. -/
  | clearFault (c : Call)
  /-- R41. -/
  | writeMatch (c : Call)
  /-- R42. -/
  | readMatch (c : Call) (damage : Damage)
  /-- R174. -/
  | stageBegin (c : Call)
  /-- R175. -/
  | stageHeader (c : Call)
  /-- R175. -/
  | stageState (c : Call)
  /-- R175. -/
  | stageTransition (c : Call)
  /-- R176. -/
  | stageCommit (c : Call)
  /-- R179. -/
  | stageAbort (c : Call)
  /-- R180. -/
  | eraseSlot (c : Call)
  /-- R63. -/
  | readSlot (c : Call) (damage : Damage)
  /-- R64. -/
  | readTransition (c : Call) (damage : Damage)
  /-- R84. -/
  | readContext (c : Call) (damage : Damage)
  /-- R85. -/
  | findContexts (c : Call) (damage : Damage)
  /-- R86. -/
  | endContext (c : Call) (damage : Damage)
  /-- R19. -/
  | readPortCounters (c : Call)
  /-- R65. -/
  | readSlotCounters (c : Call)
  /-- R20. -/
  | clearCounters (c : Call)
  /-- R134. -/
  | pollEvents (c : Call)
  /-- R136. -/
  | readAlarms (c : Call)
  /-- R137. -/
  | clearAlarms (c : Call)
  /-- R141. -/
  | setCollector (c : Call)
  /-- R148. -/
  | reportAck (c : Call)
  /-- R152. -/
  | readReportStatus (c : Call)
  /-- R4: the first byte of a frame arrives. -/
  | startOfReception (p : Port)
  deriving DecidableEq, Repr

end Sys2Proof
end

