-- ==== Sys2Proof/Decode.lean ====
section
/-! DEFINITION. The word decoder that the host asks for. spec/opcode_table.json gives none of its 46 rows any bits
("n_rows_with_fixed": 0 in 98_reader.md): the rows are happenings, not words, so no word spells one. The request codes
of R155 are bytes inside a frame's payload; Machine/Management.lean reads them. -/

namespace Sys2Proof

/-- The command that a word of `nbits` bits spells: none, since no row of the table has bits. -/
def decodeTableWord (_nbits _w : Nat) : Option Instr := none

end Sys2Proof
end

