-- ==== Sys2Proof/Config.lean ====
section
/-! DEFINITION. What the manual fixes for the part: its limits ("Numbers at a glance", 00_scope.md), its identity
(R169) and the settings it starts with (R140, R156, R165). The manual leaves no value of the part undefined, so there
is no free value here (NOTES.md, "Assumptions"). -/

namespace Sys2Proof.Config

/-- Frames a transit queue holds (R10). -/
def transitDepth : Nat := 8

/-- Events the event queue holds (R126). -/
def queueDepth : Nat := 32

/-- The largest number of events in one report or one poll (R132, R134). -/
def eventsPerReport : Nat := 4

/-- Response slots of the management unit (R161). -/
def responseSlots : Nat := 2

/-- Entries of the reply cache (R162). -/
def cacheEntries : Nat := 4

/-- Nodes in the manager list, at most (R159). -/
def managerNodes : Nat := 4

/-- Transit frames in a row while a local frame waits (R14). -/
def fairness : Nat := 4

/-- Indices that one FIND_CONTEXTS lists, at most (R85). -/
def listedContexts : Nat := 20

/-- The broadcast destination (R1); also the byte that stands for "no node" in records and data (R22). -/
def broadcast : Byte := 255#8

/-- The own address after power-on (R156). -/
def initialAddress : Byte := 253#8

/-- Frame kinds with a meaning to the part (R1). -/
def kindRequest : BitVec 6 := 60#6
def kindResponse : BitVec 6 := 61#6
def kindReport : BitVec 6 := 62#6

/-- The part code and revision that IDENTIFY returns (R169). -/
def partCode : Word16 := 0x0C96#16
def revision : Byte := 0x01#8

/-- The lease that a CLAIM takes when it names none (R165). -/
def defaultLease : Word16 := 5000#16

/-- The delivery settings after power-on (R140). -/
def initialRetryTimeout : Word16 := 100#16
def initialRetryLimit : BitVec 3 := 3#3
def initialPacingGap : Word16 := 0#16

end Sys2Proof.Config
end

