-- ==== Sys2Proof/Machine/State.lean ====
section
/-! DEFINITION. The state of the CX96 as plain data: every item that chapters 1 to 10 give its nine blocks, the RESET
line's level, the ticks that blocks have still to take, and the queue of waiting commands. -/

namespace Sys2Proof.Machine

/-! ### Ports (chapter 1) -/

/-- R17: a port's eleven counters, in the order READ_PORT_COUNTERS returns them. -/
structure PortCounters where
  goodFrames : Word32
  checkErrors : Word32
  malformed : Word32
  takenLocally : Word32
  verdictDrops : Word32
  wouldDrops : Word32
  congestionDiscards : Word32
  linkDownDiscards : Word32
  transitSent : Word32
  localSent : Word32
  linkDownFlushes : Word32
  deriving DecidableEq, Repr

/-- A trunk port with its transit queue, transmitter and arbiter (R4, R8, R10, R13, R14, R17). -/
structure PortState where
  /-- R8: the link state, UP when true. -/
  up : Bool
  /-- R4: a frame is in reception. -/
  receiving : Bool
  /-- R10: the transit queue, head first, each frame as it was received. -/
  queue : List (List Byte)
  /-- R13: the transmitter, IDLE when none, else SENDING these bytes. -/
  sending : Option (List Byte)
  /-- R14: the consecutive-transit count. -/
  consecutive : Nat
  counters : PortCounters
  deriving DecidableEq, Repr

/-! ### Classifier (chapter 2) -/

/-- R29: the operating mode. -/
inductive Mode where
  | bypass | monitor | enforce
  deriving DecidableEq, Repr

/-- The verdict on a frame (section 2.2); also the default action (R29). -/
inductive Verdict where
  | pass | drop
  deriving DecidableEq, Repr

/-- R23: the ports at which a match entry takes frames. -/
inductive IngressPorts where
  | a | b | both
  deriving DecidableEq, Repr

/-- R23: an entry's action, WATCH with its slot. -/
inductive Action where
  | pass | drop
  | watch (k : SlotIndex)
  deriving DecidableEq, Repr

/-- R23: a match entry; `none` in source or destination is ANY. -/
structure MatchEntry where
  valid : Bool
  ports : IngressPorts
  source : Option Byte
  dest : Option Byte
  kindLow : BitVec 6
  kindHigh : BitVec 6
  action : Action
  hits : Word32
  deriving DecidableEq, Repr

/-! ### Watch programs (chapter 3) -/

/-- R49: the target of a timeout or a transition. -/
inductive Target where
  | state (t : StateIndex)
  | finish
  deriving DecidableEq, Repr

/-- R51: the target of the unexpected record. -/
inductive UnexpectedTarget where
  | stay
  | move (t : Target)
  deriving DecidableEq, Repr

/-- R55: an event setting that is not none. -/
structure EventSetting where
  level : BitVec 2
  code : Byte
  deriving DecidableEq, Repr

/-- R51: the unexpected record. -/
structure UnexpectedRecord where
  target : UnexpectedTarget
  verdict : Verdict
  event : Option EventSetting
  deriving DecidableEq, Repr

/-- R50: the header of a program image with its unexpected record. -/
structure Header where
  stateCount : Fin 17
  holdOnAlarm : Bool
  overflow : Verdict
  unexpected : UnexpectedRecord
  deriving DecidableEq, Repr

/-- R52: one state record; `alarm` is the kind ALARM, a retry limit of 15 is no limit. -/
structure StateRecord where
  timeout : Word16
  target : Target
  event : Option EventSetting
  alarm : Bool
  retryLimit : BitVec 4
  deriving DecidableEq, Repr

/-- R49: a frame's direction in a context. -/
inductive Direction where
  | forward | reverse
  deriving DecidableEq, Repr

/-- R54: the test on a frame's sequence. -/
inductive Relation where
  | any | next | same | new
  deriving DecidableEq, Repr

/-- R53: a payload test that is present. -/
structure PayloadTest where
  offset : Fin 48
  mask : Byte
  value : Byte
  deriving DecidableEq, Repr

/-- R53: a filled transition position. -/
structure Transition where
  fromState : StateIndex
  direction : Direction
  kindLow : BitVec 6
  kindHigh : BitVec 6
  relation : Relation
  test : Option PayloadTest
  target : Target
  verdict : Verdict
  event : Option EventSetting
  deriving DecidableEq, Repr

/-- Section 3.2: a program image. An empty position is `none`. -/
structure Image where
  header : Header
  states : Vector StateRecord 16
  positions : Vector (Option Transition) 48
  deriving DecidableEq, Repr

/-- R60: a slot's eight counters, in the order READ_SLOT_COUNTERS returns them. -/
structure SlotCounters where
  created : Word32
  endedByEnd : Word32
  endedByTimeout : Word32
  endedOtherwise : Word32
  unanchored : Word32
  overflowRefusals : Word32
  unexpected : Word32
  retryLimitHits : Word32
  deriving DecidableEq, Repr

/-- R43: a slot's state with its installed image, which it holds exactly when it is ACTIVE or DRAINING. -/
inductive SlotStatus where
  | empty
  | active (image : Image)
  | draining (image : Image)
  deriving DecidableEq, Repr

/-- R43 and R77, R78: a slot's items, with the latched alarm that the event block keeps for it (R135) and the two live
counts that the watch engine keeps for it. -/
structure Slot where
  status : SlotStatus
  generation : BitVec 8
  counters : SlotCounters
  latched : Bool
  fullReported : Bool
  contextCount : Nat
  liveAlarms : Nat
  deriving DecidableEq, Repr

/-! ### Conversation contexts (chapter 4) -/

/-- R66: a context in use. -/
structure Context where
  slot : SlotIndex
  generation : BitVec 8
  initiator : Byte
  responder : Byte
  state : StateIndex
  deadline : Word32
  lastSequence : BitVec 4
  retryCount : BitVec 4
  framesTaken : Word16
  createdTick : Word32
  deriving DecidableEq, Repr

/-- R80: the reasons for which a context ends. -/
inductive EndReason where
  | finish | timeout | forced | superseded | erased | mode | fault | restart
  deriving DecidableEq, Repr

/-! ### Events (chapter 7) -/

/-- R125: the eleven event classes. -/
inductive EventClass where
  | transition | timeout | unexpected | retryLimit | contextFull | alarmRaised
  | superseded | installed | lockExpired | modeChanged | fault
  deriving DecidableEq, Repr

/-- R124: the nine fields that the producer fills. -/
structure EventBody where
  cls : EventClass
  level : BitVec 2
  code : Byte
  slot : Option SlotIndex
  initiator : Option Byte
  responder : Option Byte
  fromState : Option StateIndex
  toState : Option Target
  info : Byte
  deriving DecidableEq, Repr

/-- R124: an event in the queue; its arrival position is its place in the list. -/
structure Event where
  serial : Word16
  body : EventBody
  pinned : Bool
  deriving DecidableEq, Repr

/-! ### Reports (chapter 8) -/

/-- R140: the acknowledgement mode. -/
inductive AckMode where
  | ack | noAck
  deriving DecidableEq, Repr

/-- R140: the six collector settings; the port is none exactly when the collector node is none. -/
structure Collector where
  target : Option (Byte × Port)
  ackMode : AckMode
  retryTimeout : Word16
  retryLimit : BitVec 3
  pacingGap : Word16
  deriving DecidableEq, Repr

/-- R142: the report unit's state. -/
inductive ReportPhase where
  | off | idle | queued | awaitAck | gap
  deriving DecidableEq, Repr

/-- R142: the report unit's items; a stopped timer holds 0. `records` are the event records of the current report, in
the order pinned, fixed at its assembly (R3, R22). -/
structure ReportUnit where
  phase : ReportPhase
  serial : Word16
  captured : BitVec 8
  retryCount : BitVec 3
  retryTimer : Word16
  gapTimer : Word16
  staleAcks : Word32
  foreignAcks : Word32
  records : List (Word16 × EventBody)
  deriving DecidableEq, Repr

/-! ### Management (chapter 9) -/

/-- R154: the nine status codes. -/
inductive Status where
  | ok | badRequest | denied | notHolder | busy | outOfRange | wrongState | invalidProgram | faulted
  deriving DecidableEq, Repr

/-- R161: an occupied response slot: the response frame, the port it is bound to, and the requester, sequence, code and
tag of the request it answers (a payload of 0 or 1 byte has no tag). Its place in placing order is its place in the
list. -/
structure Response where
  frame : List Byte
  port : Port
  requester : Byte
  sequence : BitVec 4
  code : Option Byte
  tag : Option Byte
  deriving DecidableEq, Repr

/-- R162: an entry of the reply cache. -/
structure CacheEntry where
  source : Byte
  sequence : BitVec 4
  code : Byte
  tag : Byte
  payload : List Byte
  deriving DecidableEq, Repr

/-- R164: the lock while HELD. -/
structure Lease where
  holder : Byte
  length : Word16
  remaining : Word16
  deriving DecidableEq, Repr

/-- R168: the reset cause. -/
inductive ResetCause where
  | powerOn | resetLine | restart
  deriving DecidableEq, Repr

/-! ### Staging (chapter 10) -/

/-- R173: the staging buffer: its image while OPEN or PENDING, its target slot while PENDING. -/
inductive Staging where
  | empty
  | opened (image : Image)
  | pending (image : Image) (target : SlotIndex)
  deriving DecidableEq, Repr

/-! ### The whole part -/

/-- The state of the part. -/
structure State where
  /-- Commands waiting, first in first out: the model's own field, not the part's. -/
  pending : List Instr
  /-- R170: the RESET line is asserted. -/
  resetHeld : Bool
  portA : PortState
  portB : PortState
  /-- R23: the match table. -/
  entries : Vector MatchEntry 48
  mode : Mode
  defaultAction : Verdict
  /-- R34: the fault latch; clear when none, else set with this location. -/
  faultLatch : Option Location
  /-- R43: the program slots. -/
  slots : Vector Slot 8
  /-- R66: the context table; a free context is none. -/
  contexts : Vector (Option Context) 96
  /-- R112: the tick counter. -/
  tick : Word32
  /-- R113: the management unit has still to take the present tick. -/
  managementTickOwed : Bool
  /-- R113: the report unit has still to take the present tick. -/
  reportTickOwed : Bool
  /-- R126: the event queue in arrival order. -/
  events : List Event
  nextSerial : Word16
  lostCount : BitVec 8
  collector : Collector
  report : ReportUnit
  /-- R156: the own address. -/
  ownAddress : Byte
  /-- R159: the manager list in its stored order. -/
  managers : List Byte
  /-- R164: the lock; FREE when none. -/
  lock : Option Lease
  /-- R161: the occupied response slots in placing order. -/
  responses : List Response
  /-- R162: the reply cache, most recently written first. -/
  cache : List CacheEntry
  /-- R161: the overrun count. -/
  overruns : Word32
  resetCause : ResetCause
  staging : Staging
  deriving DecidableEq, Repr

/-- The part never stops at a fault of its own: an integrity fault is handled and the part goes on (R35 to R38), and a
refused request is answered (R154). Closed, with no constructor: no command raises one. -/
inductive Fault where
  deriving DecidableEq, Repr

/-- Why the model gives a command no meaning. -/
inductive Refusal where
  /-- Raised by exec's arm for a command that has no meaning yet; safe. No arm raises it now. -/
  | notModelled (mnemonic : String)
  deriving DecidableEq, Repr

/-! ### The state after power-on -/

/-- R17: all counters 0. -/
def PortCounters.zero : PortCounters := ⟨0, 0, 0, 0, 0, 0, 0, 0, 0, 0, 0⟩

/-- R8, R10, R13, R14, R17: a port after power-on. -/
def PortState.reset : PortState :=
  { up := false, receiving := false, queue := [], sending := none, consecutive := 0, counters := .zero }

/-- R23: an entry's cleared values. -/
def MatchEntry.cleared : MatchEntry :=
  { valid := false, ports := .both, source := none, dest := none, kindLow := 0#6, kindHigh := 63#6,
    action := .pass, hits := 0 }

/-- R61: all slot counters 0. -/
def SlotCounters.zero : SlotCounters := ⟨0, 0, 0, 0, 0, 0, 0, 0⟩

/-- R43, R67: a slot after power-on. -/
def Slot.reset : Slot :=
  { status := .empty, generation := 0, counters := .zero, latched := false, fullReported := false,
    contextCount := 0, liveAlarms := 0 }

/-- R140: the settings after power-on. -/
def Collector.reset : Collector :=
  { target := none, ackMode := .ack, retryTimeout := Config.initialRetryTimeout,
    retryLimit := Config.initialRetryLimit, pacingGap := Config.initialPacingGap }

/-- R142: the report unit after power-on. -/
def ReportUnit.reset : ReportUnit :=
  { phase := .off, serial := 0, captured := 0, retryCount := 0, retryTimer := 0, gapTimer := 0,
    staleAcks := 0, foreignAcks := 0, records := [] }

/-- The part right after power-on: every item at the value its owning chapter gives (R170), the RESET line not
asserted, no command waiting. -/
def State.reset : State :=
  { pending := []
    resetHeld := false
    portA := .reset
    portB := .reset
    entries := Vector.replicate 48 .cleared
    mode := .bypass
    defaultAction := .pass
    faultLatch := none
    slots := Vector.replicate 8 .reset
    contexts := Vector.replicate 96 none
    tick := 0
    managementTickOwed := false
    reportTickOwed := false
    events := []
    nextSerial := 0
    lostCount := 0
    collector := .reset
    report := .reset
    ownAddress := Config.initialAddress
    managers := []
    lock := none
    responses := []
    cache := []
    overruns := 0
    resetCause := .powerOn
    staging := .empty }

end Sys2Proof.Machine
end

