-- ==== Sys2Proof/Machine/Flags.lean ====
section
/-! DEFINITION. Saturating counts, the named counters of a port and of a slot, and the flags of a slot. -/

namespace Sys2Proof.Machine

/-- Counters "saturate at their largest value" (00_scope.md, "Conventions"; R17, R60): a rise by 1. -/
def satInc {w : Nat} (c : BitVec w) : BitVec w :=
  if c = BitVec.allOnes w then c else c + 1#w

/-- A saturating rise by `n` (R130, R133). -/
def satAdd {w : Nat} (c : BitVec w) (n : Nat) : BitVec w :=
  if c.toNat + n < 2 ^ w then BitVec.ofNat w (c.toNat + n) else BitVec.allOnes w

/-- A count carried in an info or data byte saturates at 255 (R22, R31, R39). -/
def countByte (n : Nat) : Byte := BitVec.ofNat 8 (min 255 n)

/-- The names of R17's counters. -/
inductive PortCounter where
  | goodFrames | checkErrors | malformed | takenLocally | verdictDrops | wouldDrops
  | congestionDiscards | linkDownDiscards | transitSent | localSent | linkDownFlushes
  deriving DecidableEq, Repr

/-- R17: one of a port's counters rises by `n`, saturating. -/
def raisePort (k : PortCounter) (n : Nat) (c : PortCounters) : PortCounters :=
  match k with
  | .goodFrames => { c with goodFrames := satAdd c.goodFrames n }
  | .checkErrors => { c with checkErrors := satAdd c.checkErrors n }
  | .malformed => { c with malformed := satAdd c.malformed n }
  | .takenLocally => { c with takenLocally := satAdd c.takenLocally n }
  | .verdictDrops => { c with verdictDrops := satAdd c.verdictDrops n }
  | .wouldDrops => { c with wouldDrops := satAdd c.wouldDrops n }
  | .congestionDiscards => { c with congestionDiscards := satAdd c.congestionDiscards n }
  | .linkDownDiscards => { c with linkDownDiscards := satAdd c.linkDownDiscards n }
  | .transitSent => { c with transitSent := satAdd c.transitSent n }
  | .localSent => { c with localSent := satAdd c.localSent n }
  | .linkDownFlushes => { c with linkDownFlushes := satAdd c.linkDownFlushes n }

/-- R17: the eleven counters in the order of the table. -/
def portCounterList (c : PortCounters) : List Word32 :=
  [c.goodFrames, c.checkErrors, c.malformed, c.takenLocally, c.verdictDrops, c.wouldDrops,
    c.congestionDiscards, c.linkDownDiscards, c.transitSent, c.localSent, c.linkDownFlushes]

/-- The names of R60's counters. -/
inductive SlotCounter where
  | created | endedByEnd | endedByTimeout | endedOtherwise
  | unanchored | overflowRefusals | unexpected | retryLimitHits
  deriving DecidableEq, Repr

/-- R60: one of a slot's counters rises by 1, saturating. -/
def raiseSlot (k : SlotCounter) (c : SlotCounters) : SlotCounters :=
  match k with
  | .created => { c with created := satInc c.created }
  | .endedByEnd => { c with endedByEnd := satInc c.endedByEnd }
  | .endedByTimeout => { c with endedByTimeout := satInc c.endedByTimeout }
  | .endedOtherwise => { c with endedOtherwise := satInc c.endedOtherwise }
  | .unanchored => { c with unanchored := satInc c.unanchored }
  | .overflowRefusals => { c with overflowRefusals := satInc c.overflowRefusals }
  | .unexpected => { c with unexpected := satInc c.unexpected }
  | .retryLimitHits => { c with retryLimitHits := satInc c.retryLimitHits }

/-- R60: the eight counters in the order of the table. -/
def slotCounterList (c : SlotCounters) : List Word32 :=
  [c.created, c.endedByEnd, c.endedByTimeout, c.endedOtherwise,
    c.unanchored, c.overflowRefusals, c.unexpected, c.retryLimitHits]

/-- R79 step 3, R80: the counter in which an end is counted. -/
def endCounter : EndReason → SlotCounter
  | .finish => .endedByEnd
  | .timeout => .endedByTimeout
  | .forced | .superseded | .erased | .mode | .fault | .restart => .endedOtherwise

/-- R79 step 4: a slot's full-reported flag is cleared. -/
def clearFull (x : Slot) : Slot := { x with fullReported := false }

/-- R48 step 3: a slot's latched alarm and full-reported flag are cleared. -/
def clearFlags (x : Slot) : Slot := { x with latched := false, fullReported := false }

/-- R20, R61: a slot's counters are set to 0. -/
def clearSlotCounters (x : Slot) : Slot := { x with counters := .zero }

end Sys2Proof.Machine
end

