-- ==== Sys2Proof/Machine/Operands.lean ====
section
/-! DEFINITION. The trunk formats of section 1.9: byte order, check code, the frames the part builds and checks, the
values of parameter and data bytes (R49 and the tables of the requests), and the event record. -/

namespace Sys2Proof.Machine

/-! ### Byte order (R21) -/

/-- R21: a two-byte field, most significant byte first. -/
def bytes16 (x : Word16) : List Byte := [x.extractLsb' 8 8, x.extractLsb' 0 8]

/-- R21: a four-byte field, most significant byte first. -/
def bytes32 (x : Word32) : List Byte :=
  [x.extractLsb' 24 8, x.extractLsb' 16 8, x.extractLsb' 8 8, x.extractLsb' 0 8]

/-- R21: the two-byte field that two bytes of a payload carry. -/
def word16 (hi lo : Byte) : Word16 := hi ++ lo

/-! ### Check code (R2) -/

/-- R2: one of the eight steps of the register. -/
def crcStep (r : Word16) : Word16 := if r.msb then (r <<< 1) ^^^ 0x1021#16 else r <<< 1

/-- R2: `n` steps. -/
def crcSteps : Nat → Word16 → Word16
  | 0, r => r
  | n + 1, r => crcSteps n (crcStep r)

/-- R2: one byte is combined into the upper eight bits, then the register is stepped eight times. -/
def crcByte (r : Word16) (b : Byte) : Word16 := crcSteps 8 (r ^^^ ((b.setWidth 16) <<< 8))

/-- R2: the check code of a run of bytes. -/
def crc (bs : List Byte) : Word16 := bs.foldl crcByte 0xFFFF#16

/-! ### Frames (R1, R3, R5) -/

/-- R1: the frame with these header fields and this payload, with its check code. -/
def buildFrame (dest source : Byte) (kind : BitVec 6) (sequence : BitVec 4) (payload : List Byte) : List Byte :=
  let body := [dest, source, kind.setWidth 8, sequence.setWidth 8, BitVec.ofNat 8 payload.length] ++ payload
  body ++ bytes16 (crc body)

/-- A good frame's fields (R1), with the bytes as received (R15: a transit frame leaves bit for bit). -/
structure Frame where
  dest : Byte
  source : Byte
  kind : BitVec 6
  sequence : BitVec 4
  payload : List Byte
  raw : List Byte
  deriving DecidableEq, Repr

/-- What the ingress checks find (R5). -/
inductive Ingress where
  | malformed
  | checkError
  | good (f : Frame)
  deriving DecidableEq, Repr

/-- R5: the ingress checks, in order. -/
def ingress (bs : List Byte) : Ingress :=
  if bs.length < 7 ∨ 55 < bs.length then .malformed
  else if bytes16 (crc (bs.take (bs.length - 2))) ≠ bs.drop (bs.length - 2) then .checkError
  else
    match bs with
    | dest :: source :: kind :: sequence :: len :: rest =>
      if 63 < kind.toNat ∨ 15 < sequence.toNat then .malformed
      else if 48 < len.toNat then .malformed
      else if bs.length - 7 ≠ len.toNat then .malformed
      else if source = Config.broadcast then .malformed
      else if source = dest then .malformed
      else .good
        { dest := dest, source := source, kind := kind.setWidth 6, sequence := sequence.setWidth 4,
          payload := rest.take len.toNat, raw := bs }
    | _ => .malformed

/-! ### Values of single bytes (R49 and the parameter tables) -/

/-- A number below `n` in one byte. -/
def parseFin (n : Nat) (b : Byte) : Option (Fin n) :=
  if h : b.toNat < n then some ⟨b.toNat, h⟩ else none

/-- A number below `n` as a byte. -/
def finByte {n : Nat} (i : Fin n) : Byte := BitVec.ofNat 8 i.val

/-- 00h or 01h (R49, "flags"). -/
def parseFlag (b : Byte) : Option Bool :=
  if b = 0x00#8 then some false else if b = 0x01#8 then some true else none

def flagByte (x : Bool) : Byte := if x then 0x01#8 else 0x00#8

/-- R29: BYPASS 00h, MONITOR 01h, ENFORCE 02h. -/
def parseMode (b : Byte) : Option Mode :=
  if b = 0x00#8 then some .bypass else if b = 0x01#8 then some .monitor
  else if b = 0x02#8 then some .enforce else none

def modeByte : Mode → Byte
  | .bypass => 0x00#8
  | .monitor => 0x01#8
  | .enforce => 0x02#8

/-- R29, R49: PASS 00h, DROP 01h. -/
def parseVerdict (b : Byte) : Option Verdict :=
  if b = 0x00#8 then some .pass else if b = 0x01#8 then some .drop else none

def verdictByte : Verdict → Byte
  | .pass => 0x00#8
  | .drop => 0x01#8

/-- R19, R141: port A 00h, port B 01h. -/
def parsePort (b : Byte) : Option Port :=
  if b = 0x00#8 then some .a else if b = 0x01#8 then some .b else none

def portByte : Port → Byte
  | .a => 0x00#8
  | .b => 0x01#8

/-- R41: ingress ports A 00h, B 01h, BOTH 02h. -/
def parseIngressPorts (b : Byte) : Option IngressPorts :=
  if b = 0x00#8 then some .a else if b = 0x01#8 then some .b
  else if b = 0x02#8 then some .both else none

def ingressPortsByte : IngressPorts → Byte
  | .a => 0x00#8
  | .b => 0x01#8
  | .both => 0x02#8

/-- A frame kind, 0 to 63 (R1). -/
def parseKind (b : Byte) : Option (BitVec 6) :=
  if b.toNat < 64 then some (b.setWidth 6) else none

/-- A target that names a state (00h to 0Fh) or END (10h) (R49). -/
def parseTarget (b : Byte) : Option Target :=
  if b = 0x10#8 then some .finish else (parseFin 16 b).map .state

def targetByte : Target → Byte
  | .state t => finByte t
  | .finish => 0x10#8

/-- The unexpected record's target, with STAY 11h (R49). -/
def parseUnexpectedTarget (b : Byte) : Option UnexpectedTarget :=
  if b = 0x11#8 then some .stay else (parseTarget b).map .move

def unexpectedTargetByte : UnexpectedTarget → Byte
  | .stay => 0x11#8
  | .move t => targetByte t

/-- An event setting from its level and code bytes: level 00h to 03h, or FFh for none, whose code is not stored
(R49, R175). -/
def parseEvent (level code : Byte) : Option (Option EventSetting) :=
  if level = 0xFF#8 then some none
  else if level.toNat < 4 then some (some ⟨level.setWidth 2, code⟩) else none

/-- The level and code bytes of an event setting; the code is 00h when the level is none (R49). -/
def eventBytes : Option EventSetting → List Byte
  | none => [0xFF#8, 0x00#8]
  | some e => [e.level.setWidth 8, e.code]

/-- R49: FORWARD 00h, REVERSE 01h. -/
def parseDirection (b : Byte) : Option Direction :=
  if b = 0x00#8 then some .forward else if b = 0x01#8 then some .reverse else none

def directionByte : Direction → Byte
  | .forward => 0x00#8
  | .reverse => 0x01#8

/-- R49: ANY 00h, NEXT 01h, SAME 02h, NEW 03h. -/
def parseRelation (b : Byte) : Option Relation :=
  if b = 0x00#8 then some .any else if b = 0x01#8 then some .next
  else if b = 0x02#8 then some .same else if b = 0x03#8 then some .new else none

def relationByte : Relation → Byte
  | .any => 0x00#8
  | .next => 0x01#8
  | .same => 0x02#8
  | .new => 0x03#8

/-- R154: the status codes. -/
def statusByte : Status → Byte
  | .ok => 0x00#8
  | .badRequest => 0x01#8
  | .denied => 0x02#8
  | .notHolder => 0x03#8
  | .busy => 0x04#8
  | .outOfRange => 0x05#8
  | .wrongState => 0x06#8
  | .invalidProgram => 0x07#8
  | .faulted => 0x08#8

/-- R63: EMPTY 00h, ACTIVE 01h, DRAINING 02h. -/
def slotStatusByte : SlotStatus → Byte
  | .empty => 0x00#8
  | .active _ => 0x01#8
  | .draining _ => 0x02#8

/-- R142: the report unit's state. -/
def phaseByte : ReportPhase → Byte
  | .off => 0x00#8
  | .idle => 0x01#8
  | .queued => 0x02#8
  | .awaitAck => 0x03#8
  | .gap => 0x04#8

/-- R168: the reset cause. -/
def resetCauseByte : ResetCause → Byte
  | .powerOn => 0x00#8
  | .resetLine => 0x01#8
  | .restart => 0x02#8

/-- R34: the location kind and index; a clear latch has kind none with index 255. -/
def locationKind : Option Location → Byte
  | none => 0x00#8
  | some (.matchEntry _) => 0x01#8
  | some (.program _) => 0x02#8
  | some (.context _) => 0x03#8

def locationIndex : Option Location → Byte
  | none => 0xFF#8
  | some (.matchEntry i) => finByte i
  | some (.program k) => finByte k
  | some (.context i) => finByte i

/-- A node that may be none, sent as 255 (R22, R169). -/
def nodeByte (n : Option Byte) : Byte := n.getD 0xFF#8

/-! ### Event records (R22, R125) -/

/-- R125: the class numbers. -/
def classByte : EventClass → Byte
  | .transition => 1#8
  | .timeout => 2#8
  | .unexpected => 3#8
  | .retryLimit => 4#8
  | .contextFull => 5#8
  | .alarmRaised => 6#8
  | .superseded => 7#8
  | .installed => 8#8
  | .lockExpired => 9#8
  | .modeChanged => 10#8
  | .fault => 11#8

/-- R22: level in bits 7 and 6, zero in bits 5 and 4, slot in bits 3 to 0 with 15 for none. -/
def levelSlotByte (level : BitVec 2) (slot : Option SlotIndex) : Byte :=
  level ++ 0#2 ++ (match slot with
    | some k => BitVec.ofNat 4 k.val
    | none => 15#4)

/-- R22: the ten bytes of an event record. -/
def recordBytes (serial : Word16) (e : EventBody) : List Byte :=
  bytes16 serial ++
    [classByte e.cls, e.code, levelSlotByte e.level e.slot, nodeByte e.initiator, nodeByte e.responder,
      (e.fromState.map finByte).getD 0xFF#8, (e.toState.map targetByte).getD 0xFF#8, e.info]

/-! ### Parts of a program image in parameters and data (R49, R63, R64, R175) -/

/-- R175: the header of STAGE_HEADER's seven bytes. -/
def parseHeader : List Byte → Option Header
  | [count, hold, overflow, target, verdict, level, code] => do
    let count ← parseFin 17 count
    let hold ← parseFlag hold
    let overflow ← parseVerdict overflow
    let target ← parseUnexpectedTarget target
    let verdict ← parseVerdict verdict
    let event ← parseEvent level code
    some ⟨count, hold, overflow, ⟨target, verdict, event⟩⟩
  | _ => none

/-- R63: the header part of READ_SLOT's data. -/
def headerBytes (h : Header) : List Byte :=
  [finByte h.stateCount, flagByte h.holdOnAlarm, verdictByte h.overflow,
    unexpectedTargetByte h.unexpected.target, verdictByte h.unexpected.verdict] ++ eventBytes h.unexpected.event

/-- R175: the index and record of STAGE_STATE's eight bytes. -/
def parseState : List Byte → Option (StateIndex × StateRecord)
  | [index, hi, lo, target, level, code, kind, limit] => do
    let index ← parseFin 16 index
    let target ← parseTarget target
    let event ← parseEvent level code
    let alarm ← parseFlag kind
    let limit ← parseFin 16 limit
    some (index, ⟨word16 hi lo, target, event, alarm, BitVec.ofNat 4 limit.val⟩)
  | _ => none

/-- R63: the state part of READ_SLOT's data. -/
def stateBytes (i : StateIndex) (r : StateRecord) : List Byte :=
  [finByte i] ++ bytes16 r.timeout ++ [targetByte r.target] ++ eventBytes r.event ++
    [flagByte r.alarm, r.retryLimit.setWidth 8]

/-- R175: a payload test from its four bytes; when it is absent the others are not stored. -/
def parseTest (present offset mask value : Byte) : Option (Option PayloadTest) := do
  let present ← parseFlag present
  if present then
    let offset ← parseFin 48 offset
    some (some ⟨offset, mask, value⟩)
  else some none

/-- R64: the four bytes of a payload test; 00h in each place when it is absent. -/
def testBytes : Option PayloadTest → List Byte
  | none => [0x00#8, 0x00#8, 0x00#8, 0x00#8]
  | some t => [0x01#8, finByte t.offset, t.mask, t.value]

/-- R175: the position and transition of STAGE_TRANSITION's fourteen bytes. -/
def parseTransition : List Byte → Option (Position × Transition)
  | [position, fromState, direction, low, high, relation, present, offset, mask, value, target, verdict,
      level, code] => do
    let position ← parseFin 48 position
    let fromState ← parseFin 16 fromState
    let direction ← parseDirection direction
    let low ← parseKind low
    let high ← parseKind high
    let relation ← parseRelation relation
    let test ← parseTest present offset mask value
    let target ← parseTarget target
    let verdict ← parseVerdict verdict
    let event ← parseEvent level code
    some (position, ⟨fromState, direction, low, high, relation, test, target, verdict, event⟩)
  | _ => none

/-- R64: the thirteen bytes of a filled position. -/
def transitionBytes (t : Transition) : List Byte :=
  [finByte t.fromState, directionByte t.direction, t.kindLow.setWidth 8, t.kindHigh.setWidth 8,
    relationByte t.relation] ++ testBytes t.test ++ [targetByte t.target, verdictByte t.verdict] ++
    eventBytes t.event

/-! ### Match entries (R41, R42) -/

/-- R41: a node that may be ANY, from its form byte and node byte; a source may not be 255. -/
def parseNode (allowBroadcast : Bool) (form node : Byte) : Option (Option Byte) :=
  if form = 0x01#8 then some none
  else if form = 0x00#8 ∧ (allowBroadcast = true ∨ node ≠ Config.broadcast) then some (some node)
  else none

/-- R42: the form and node bytes; ANY reads back with node 0. -/
def formBytes : Option Byte → List Byte
  | none => [0x01#8, 0x00#8]
  | some n => [0x00#8, n]

/-- R41: the action with its slot, which is not stored for PASS and DROP. -/
def parseAction (action slot : Byte) : Option Action :=
  if action = 0x00#8 then some .pass else if action = 0x01#8 then some .drop
  else if action = 0x02#8 then (parseFin 8 slot).map .watch else none

/-- R42: the action and slot bytes. -/
def actionBytes : Action → List Byte
  | .pass => [0x00#8, 0x00#8]
  | .drop => [0x01#8, 0x00#8]
  | .watch k => [0x02#8, finByte k]

/-- R41: the index and entry of WRITE_MATCH's eleven bytes, with hit counter 0. -/
def parseEntry : List Byte → Option (EntryIndex × MatchEntry)
  | [index, valid, ports, sourceForm, source, destForm, dest, low, high, action, slot] => do
    let index ← parseFin 48 index
    let valid ← parseFlag valid
    let ports ← parseIngressPorts ports
    let source ← parseNode false sourceForm source
    let dest ← parseNode true destForm dest
    let low ← parseKind low
    let high ← parseKind high
    let action ← parseAction action slot
    if high < low then none
    else some (index, ⟨valid, ports, source, dest, low, high, action, 0⟩)
  | _ => none

/-- R42: the fourteen bytes of READ_MATCH's data. -/
def entryBytes (e : MatchEntry) : List Byte :=
  [flagByte e.valid, ingressPortsByte e.ports] ++ formBytes e.source ++ formBytes e.dest ++
    [e.kindLow.setWidth 8, e.kindHigh.setWidth 8] ++ actionBytes e.action ++ bytes32 e.hits

/-! ### Collector settings (R140, R141) -/

/-- R141: the settings of SET_COLLECTOR's nine bytes; the node and port bytes are not stored with the form none. -/
def parseCollector : List Byte → Option Collector
  | [form, node, port, mode, timeoutHi, timeoutLo, limit, gapHi, gapLo] => do
    let none_ ← parseFlag form
    let target ← (if none_ then some none
      else if node = Config.broadcast then none
      else (parsePort port).map (fun p => some (node, p)))
    let noAck ← parseFlag mode
    let limit ← parseFin 8 limit
    let timeout := word16 timeoutHi timeoutLo
    let gap := word16 gapHi gapLo
    if 10 ≤ timeout.toNat ∧ timeout.toNat ≤ 1000 ∧ gap.toNat ≤ 1000 then
      some ⟨target, if noAck then .noAck else .ack, timeout, BitVec.ofNat 3 limit.val, gap⟩
    else none
  | _ => none

/-- R152: the last eight bytes of READ_REPORT_STATUS's data. -/
def collectorBytes (c : Collector) : List Byte :=
  [nodeByte (c.target.map Prod.fst), (c.target.map (fun t => portByte t.2)).getD 0xFF#8,
    (match c.ackMode with
      | .ack => 0x00#8
      | .noAck => 0x01#8)] ++
    bytes16 c.retryTimeout ++ [c.retryLimit.setWidth 8] ++ bytes16 c.pacingGap

end Sys2Proof.Machine
end

