-- ==== Sys2Proof/Machine/Ops.lean ====
section
/-! DEFINITION. The operations that the commands share: the named reads and writes of State, the event queue
(chapter 7), the egress arbiter (section 1.6), the report unit's current report (chapter 8), an install (R46) and the
end of a context (R79). -/

namespace Sys2Proof.Machine

/-! ### Reads and writes of the tables -/

/-- The state of a port. -/
def State.port (s : State) : Port → PortState
  | .a => s.portA
  | .b => s.portB

/-- Replaces the state of a port. -/
def State.setPort (p : Port) (q : PortState) (s : State) : State :=
  match p with
  | .a => { s with portA := q }
  | .b => { s with portB := q }

/-- Changes the state of a port. -/
def State.modifyPort (p : Port) (f : PortState → PortState) (s : State) : State := s.setPort p (f (s.port p))

/-- A program slot. -/
def State.slot (s : State) (k : SlotIndex) : Slot := s.slots[k]

/-- Changes a program slot. -/
def State.modifySlot (k : SlotIndex) (f : Slot → Slot) (s : State) : State :=
  { s with slots := s.slots.set k (f s.slots[k]) }

/-- Changes every program slot. -/
def State.modifySlots (f : Slot → Slot) (s : State) : State :=
  { s with slots := Vector.ofFn (fun k => f s.slots[k]) }

/-- A context, none when it is free. -/
def State.context (s : State) (i : ContextIndex) : Option Context := s.contexts[i]

/-- Writes a context, or frees it. -/
def State.setContext (i : ContextIndex) (c : Option Context) (s : State) : State :=
  { s with contexts := s.contexts.set i c }

/-- A match entry. -/
def State.entry (s : State) (i : EntryIndex) : MatchEntry := s.entries[i]

/-- Writes a match entry. -/
def State.setEntry (i : EntryIndex) (e : MatchEntry) (s : State) : State :=
  { s with entries := s.entries.set i e }

/-- Sets every hit counter to 0 (R20, R23). -/
def State.clearHits (s : State) : State :=
  { s with entries := Vector.ofFn (fun i => { s.entries[i] with hits := 0 }) }

/-- R17: one of a port's counters rises by `n`. -/
def State.count (p : Port) (k : PortCounter) (n : Nat) (s : State) : State :=
  s.modifyPort p (fun q => { q with counters := raisePort k n q.counters })

/-- R60: one of a slot's counters rises by 1. -/
def State.countSlot (k : SlotIndex) (c : SlotCounter) (s : State) : State :=
  s.modifySlot k (fun x => { x with counters := raiseSlot c x.counters })

/-- R43: the installed image of a slot, none when it is EMPTY. -/
def SlotStatus.image : SlotStatus → Option Image
  | .empty => none
  | .active img => some img
  | .draining img => some img

/-- R52: the record of a state. -/
def Image.state (img : Image) (t : StateIndex) : StateRecord := img.states[t]

/-- R78: whether a state is of kind ALARM, by the slot's installed image. -/
def SlotStatus.alarmState (st : SlotStatus) (t : StateIndex) : Bool :=
  st.image.any (fun img => (img.state t).alarm)

/-- R51: the move that the unexpected record names; none is STAY. -/
def UnexpectedTarget.move? : UnexpectedTarget → Option Target
  | .stay => none
  | .move t => some t

/-- The indices of the context table in ascending order (R81). -/
def contextIndices : List ContextIndex := List.finRange 96

/-- The indices of the match table in ascending order (R25). -/
def entryIndices : List EntryIndex := List.finRange 48

/-- The slots in ascending order. -/
def slotIndices : List SlotIndex := List.finRange 8

/-- The transition positions in ascending order (R98). -/
def positionIndices : List Position := List.finRange 48

/-! ### The event queue (chapter 7) -/

/-- Removes the last entry that `p` holds of. -/
def eraseLast {α : Type} (p : α → Bool) (l : List α) : List α := (l.reverse.eraseP p).reverse

/-- R129: the lowest level among the unpinned events. -/
def lowestLevel : List Event → Option (BitVec 2)
  | [] => none
  | e :: l =>
    if e.pinned then lowestLevel l
    else
      match lowestLevel l with
      | none => some e.body.level
      | some m => some (if e.body.level < m then e.body.level else m)

/-- R127: an offered event is given the next serial and placed last, unpinned. -/
def admitEvent (e : EventBody) (s : State) : State :=
  { s with
    events := s.events ++ [{ serial := s.nextSerial, body := e, pinned := false }]
    nextSerial := s.nextSerial + 1 }

/-- R128: an event that holds the serial about to be given is removed and counted lost. -/
def removeCollision (s : State) : State :=
  if s.events.any (fun x => x.serial == s.nextSerial) then
    { s with
      events := s.events.filter (fun x => x.serial != s.nextSerial)
      lostCount := satAdd s.lostCount 1 }
  else s

/-- R129 step 3: an offer that is discarded is counted lost. -/
def discardOffer (s : State) : State := { s with lostCount := satAdd s.lostCount 1 }

/-- R129 step 2: the newest unpinned event of level `m` is removed and counted lost. -/
def displace (m : BitVec 2) (s : State) : State :=
  { s with
    events := eraseLast (fun x => !x.pinned && x.body.level == m) s.events
    lostCount := satAdd s.lostCount 1 }

/-- R127 to R129: the queue takes one offer, once R128 has been applied. -/
def decideOffer (e : EventBody) (s : State) : State :=
  if s.events.length < Config.queueDepth then admitEvent e s
  else
    match lowestLevel s.events with
    | some m => if m < e.level then admitEvent e (displace m s) else discardOffer s
    | none => discardOffer s

/-- R127: a block offers one event. R128's removal comes first, whether or not the queue is full (DEDUCED from its
last sentence; notes/assumptions/7.md). -/
def offer (e : EventBody) (s : State) : State := decideOffer e (removeCollision s)

/-- R127: a happening offers its events one after another. -/
def offerAll (es : List EventBody) (s : State) : State := es.foldl (fun s e => offer e s) s

/-- The unpinned events of one level, in arrival order. -/
def unpinnedOf (m : BitVec 2) (l : List Event) : List Event :=
  l.filter (fun x => !x.pinned && x.body.level == m)

/-- R131: selection order: highest level first, within a level earliest arrival first; pinned events take no part. -/
def selectionOrder (l : List Event) : List Event :=
  unpinnedOf 3#2 l ++ unpinnedOf 2#2 l ++ unpinnedOf 1#2 l ++ unpinnedOf 0#2 l

/-- R132, R134: the first events in selection order, up to 4. -/
def selected (l : List Event) : List Event := (selectionOrder l).take Config.eventsPerReport

/-- The event is one of those selected, known by its serial (R126: serials in the queue are distinct). -/
def isSelected (chosen : List Event) (e : Event) : Bool := !e.pinned && chosen.any (fun x => x.serial == e.serial)

/-- R132: the selected events are marked as pinned. -/
def pinEvents (chosen : List Event) (l : List Event) : List Event :=
  l.map (fun e => if isSelected chosen e then { e with pinned := true } else e)

/-- R134: the selected events are removed. -/
def takeEvents (chosen : List Event) (l : List Event) : List Event := l.filter (fun e => !isSelected chosen e)

/-- The number of pinned events. -/
def pinnedCount (l : List Event) : Nat := (l.filter (fun e => e.pinned)).length

/-- R133, delivered: every pinned event is removed and none is counted lost. -/
def deliverPinned (s : State) : State := { s with events := s.events.filter (fun e => !e.pinned) }

/-- R133, given up: the pinned events are removed, and they and the captured lost count are counted lost. -/
def giveUpPinned (s : State) : State :=
  { s with
    events := s.events.filter (fun e => !e.pinned)
    lostCount := satAdd s.lostCount (pinnedCount s.events + s.report.captured.toNat) }

/-- R133, abandoned: the pinned events become unpinned in place, and the captured lost count is added back. -/
def unpinEvents (s : State) : State :=
  { s with
    events := s.events.map (fun e => { e with pinned := false })
    lostCount := satAdd s.lostCount s.report.captured.toNat }

/-! ### The current report (chapter 8) -/

/-- The current report is over: its captured lost count, retry count, retry timer and records are given up and the
unit takes the phase `ph` with the gap timer at `gap` (R141, R144, R145, R147, R148). -/
def closeReport (ph : ReportPhase) (gap : Word16) (s : State) : State :=
  { s with
    report := { s.report with
      phase := ph, captured := 0, retryCount := 0, retryTimer := 0, gapTimer := gap, records := [] } }

/-- R144, R147, R148: after a report the unit goes to GAP with the gap timer at the pacing gap, or to IDLE when the
pacing gap is 0. -/
def endReport (s : State) : State :=
  if s.collector.pacingGap = 0 then closeReport .idle 0 s else closeReport .gap s.collector.pacingGap s

/-- R145: the report is abandoned at its port. -/
def abandonReport (s : State) : State := closeReport .idle 0 (unpinEvents s)

/-- R144: the arbiter has selected the report frame. -/
def reportSelected (s : State) : State :=
  match s.collector.ackMode with
  | .ack => { s with report := { s.report with phase := .awaitAck, retryTimer := s.collector.retryTimeout } }
  | .noAck => endReport (deliverPinned s)

/-- R3, R15 and section 1.9: the report frame as sent now, with the own address and the send tick of this moment. -/
def reportFrame (node : Byte) (s : State) : List Byte :=
  buildFrame node s.ownAddress Config.kindReport (s.report.serial.setWidth 4)
    (bytes16 s.report.serial ++ [BitVec.ofNat 8 s.report.records.length, s.report.captured] ++
      bytes16 (s.tick.setWidth 16) ++ s.report.records.flatMap (fun r => recordBytes r.1 r.2))

/-! ### The egress arbiter (section 1.6) -/

/-- R12: the collector node, when the report frame waits at this port. -/
def reportWaiting (p : Port) (s : State) : Option Byte :=
  match s.report.phase, s.collector.target with
  | .queued, some (node, q) => if q = p then some node else none
  | _, _ => none

/-- R12: the local group of a port is empty. -/
def localEmpty (p : Port) (s : State) : Bool :=
  !s.responses.any (fun r => r.port == p) && (reportWaiting p s).isNone

/-- R14: what a selection finds. -/
inductive Choice where
  | response (r : Response)
  | report (node : Byte)
  | transit (frame : List Byte) (rest : List (List Byte))
  | nothing
  deriving DecidableEq, Repr

/-- R12: the first frame of a port's local group: responses before the report, the response placed earlier first. -/
def firstLocal (p : Port) (s : State) : Choice :=
  match s.responses.find? (fun r => r.port == p) with
  | some r => .response r
  | none =>
    match reportWaiting p s with
    | some node => .report node
    | none => .nothing

/-- R14: the arbiter's choice. -/
def choose (p : Port) (s : State) : Choice :=
  match (s.port p).queue with
  | [] => firstLocal p s
  | f :: rest =>
    if !localEmpty p s && (s.port p).consecutive == Config.fairness then firstLocal p s
    else .transit f rest

/-- R13, R14: the transmitter starts on a local frame; the count becomes 0 and the frame is counted as sent. -/
def startLocal (p : Port) (frame : List Byte) (s : State) : State :=
  s.modifyPort p (fun q =>
    { q with sending := some frame, consecutive := 0, counters := raisePort .localSent 1 q.counters })

/-- R13, R14: the transmitter starts on the head of the transit queue; the count increases by 1 while a local frame
waits. -/
def startTransit (p : Port) (frame : List Byte) (rest : List (List Byte)) (s : State) : State :=
  s.modifyPort p (fun q =>
    { q with
      sending := some frame, queue := rest
      consecutive := if localEmpty p s then 0 else q.consecutive + 1
      counters := raisePort .transitSent 1 q.counters })

/-- R14: a selection at a port whose transmitter is free. -/
def makeSelection (p : Port) (s : State) : State :=
  match choose p s with
  | .response r =>
    startLocal p r.frame { s with responses := s.responses.eraseP (fun x => x.port == p) }
  | .report node => reportSelected (startLocal p (reportFrame node s) s)
  | .transit f rest => startTransit p f rest s
  | .nothing => s

/-- R13: the arbiter makes a selection while the port is UP and the transmitter is IDLE. -/
def select (p : Port) (s : State) : State :=
  if (s.port p).up && (s.port p).sending.isNone then makeSelection p s else s

/-- R14: when a withdrawal empties a port's local group, its count becomes 0. -/
def settleCount (p : Port) (s : State) : State :=
  if localEmpty p s then s.modifyPort p (fun q => { q with consecutive := 0 }) else s

/-- R12, R14: a waiting report frame has been withdrawn from the arbiter of the collector port. -/
def settleCollectorPort (s : State) : State :=
  match s.collector.target with
  | some (_, p) => settleCount p s
  | none => s

/-- R141 step 1: the current report, if there is one, is abandoned; a waiting frame is withdrawn. -/
def dropCurrent (s : State) : State :=
  match s.report.phase with
  | .queued => settleCollectorPort (abandonReport s)
  | .awaitAck => abandonReport s
  | .off => s
  | .idle => s
  | .gap => s

/-- R9, R143, R146: the report frame is offered to the collector port's arbiter; a DOWN port refuses it and the report
is abandoned (R145). At an UP port whose transmitter is IDLE the frame of a retransmission is selected at once (R13), so
a REPORT_ACK taken next finds the unit in AWAIT_ACK and is a delivery by R148, where R150's table calls it stale (DESIGN
CHOICE, notes/assumptions/16.md). The frame of an assembly is selected at once in the same way. In NOACK mode it is then
delivered (R144), so a SET_COLLECTOR taken next abandons nothing by R141, where R150's table has it abandon the new
report (DESIGN CHOICE, notes/assumptions/18.md). -/
def offerReport (s : State) : State :=
  match s.collector.target with
  | some (_, p) =>
    if (s.port p).up then select p { s with report := { s.report with phase := .queued } }
    else abandonReport s
  | none => s

/-! ### Events of the system classes (R125) -/

/-- R178: INSTALLED, at the completion of a drain. -/
def installedEvent (k : SlotIndex) (generation : BitVec 8) : EventBody :=
  ⟨.installed, 0#2, 0#8, some k, none, none, none, none, generation⟩

/-- R177: SUPERSEDED, for a commit that ended contexts. -/
def supersededEvent (k : SlotIndex) (ended : Nat) : EventBody :=
  ⟨.superseded, 1#2, 0#8, some k, none, none, none, none, countByte ended⟩

/-- R164: LOCK_EXPIRED. -/
def lockExpiredEvent (holder : Byte) : EventBody :=
  ⟨.lockExpired, 1#2, 0#8, none, none, none, none, none, holder⟩

/-- R31: MODE_CHANGED. -/
def modeChangedEvent (m : Mode) (ended : Nat) : EventBody :=
  ⟨.modeChanged, 1#2, modeByte m, none, none, none, none, none, countByte ended⟩

/-- R36: FAULT, with the slot for a PROGRAM fault. -/
def faultEvent (l : Location) : EventBody :=
  ⟨.fault, 3#2, locationKind (some l),
    (match l with
      | .program k => some k
      | _ => none), none, none, none, none, locationIndex (some l)⟩

/-- R75: CONTEXT_FULL. -/
def contextFullEvent (k : SlotIndex) (source dest : Byte) : EventBody :=
  ⟨.contextFull, 2#2, 0#8, some k, some source, some dest, none, none, 96#8⟩

/-- R104: ALARM_RAISED. -/
def alarmRaisedEvent (k : SlotIndex) (initiator responder : Byte) (before after : StateIndex) (live : Nat) :
    EventBody :=
  ⟨.alarmRaised, 2#2, 0#8, some k, some initiator, some responder, some before, some (.state after), countByte live⟩

/-! ### Installs and ends of contexts (R46, R79) -/

/-- R52, R173: a state record at or above the state count is not part of the program; it is not installed. -/
def installedImage (img : Image) : Image :=
  { img with
    states := Vector.ofFn (fun (t : Fin 16) =>
      if t.val < img.header.stateCount.val then img.states[t] else ⟨0#16, .state 0, none, false, 0#4⟩) }

/-- R46: the slot after an install of the image. -/
def installSlot (img : Image) (x : Slot) : Slot :=
  { x with
    status := .active (installedImage img), generation := x.generation + 1, counters := .zero
    latched := false, fullReported := false }

/-- R46: an install places the image into the slot. -/
def install (k : SlotIndex) (img : Image) (s : State) : State := s.modifySlot k (installSlot img)

/-- R44: a DRAINING slot returns to ACTIVE with its old program. -/
def resumeSlot (x : Slot) : Slot :=
  match x.status with
  | .draining img => { x with status := .active img }
  | .active _ => x
  | .empty => x

/-- R48, R166, R179: the staging buffer is emptied; the target slot of a PENDING buffer returns to ACTIVE. -/
def discardStaging (s : State) : State :=
  match s.staging with
  | .pending _ k => ({ s with staging := .empty }).modifySlot k resumeSlot
  | .opened _ => { s with staging := .empty }
  | .empty => s

/-- R164, R173: when the lock becomes FREE an OPEN buffer is discarded; a PENDING one is kept. -/
def discardOpen (s : State) : State :=
  match s.staging with
  | .opened _ => { s with staging := .empty }
  | .pending _ _ => s
  | .empty => s

/-- A state with the events that its happening has still to offer. -/
structure Ended where
  state : State
  count : Nat
  events : List EventBody
  deriving DecidableEq, Repr

/-- R178: the drain of slot `k` completes: the staged image is installed, the buffer becomes EMPTY, and the happening
has an INSTALLED event to offer. -/
def completeDrain (k : SlotIndex) (s : State) : State × List EventBody :=
  match s.staging with
  | .pending img target =>
    if target = k then
      let s := install k img { s with staging := .empty }
      (s, [installedEvent k (s.slot k).generation])
    else (s, [])
  | _ => (s, [])

/-- R79 step 5: a DRAINING slot whose context count is 0 has its drain completed. -/
def drainIfDone (k : SlotIndex) (s : State) : State × List EventBody :=
  match (s.slot k).status with
  | .draining _ => if (s.slot k).contextCount = 0 then completeDrain k s else (s, [])
  | _ => (s, [])

/-- R79 steps 2 and 3: the slot after the end of one of its contexts, whose state was of kind ALARM or not. -/
def loseContext (alarm : Bool) (reason : EndReason) (x : Slot) : Slot :=
  { x with
    contextCount := x.contextCount - 1
    liveAlarms := if alarm then x.liveAlarms - 1 else x.liveAlarms
    counters := raiseSlot (endCounter reason) x.counters }

/-- R79 steps 1 to 4. -/
def freeContext (i : ContextIndex) (c : Context) (reason : EndReason) (s : State) : State :=
  (((s.setContext i none).modifySlot c.slot
    (loseContext ((s.slot c.slot).status.alarmState c.state) reason)).modifySlots clearFull)

/-- R79: ending the context at index `i`; a free index is left as it is. -/
def endContext (i : ContextIndex) (reason : EndReason) (s : State) : State × List EventBody :=
  match s.context i with
  | none => (s, [])
  | some c => drainIfDone c.slot (freeContext i c reason s)

/-- R81: one step of ending several contexts. -/
def endNext (which : Context → Bool) (reason : EndReason) (e : Ended) (i : ContextIndex) : Ended :=
  match e.state.context i with
  | none => e
  | some c =>
    if which c then
      let r := endContext i reason e.state
      ⟨r.1, e.count + 1, e.events ++ r.2⟩
    else e

/-- R81: the contexts that `which` admits end one at a time, in ascending index order. -/
def endContexts (which : Context → Bool) (reason : EndReason) (s : State) : Ended :=
  contextIndices.foldl (endNext which reason) ⟨s, 0, []⟩

/-- The context belongs to slot `k`. -/
def ofSlot (k : SlotIndex) (c : Context) : Bool := c.slot == k

/-- R47: the slot once its contexts have ended and it has become EMPTY; its counters and generation stay. -/
def emptySlot (x : Slot) : Slot := { x with status := .empty, latched := false, fullReported := false }

end Sys2Proof.Machine
end

