-- ==== Sys2Proof/Machine/Faults.lean ====
section
/-! DEFINITION. Changes of the operating mode (R31, R32) and integrity faults (section 2.4). -/

namespace Sys2Proof.Machine

/-- R32: a change to BYPASS ends every context in use. -/
def changeToBypass (reason : EndReason) (s : State) : Ended :=
  endContexts (fun _ => true) reason { s with mode := .bypass }

/-- R47 without its clearing of counters: every context of the slot ends, then an ACTIVE slot becomes EMPTY. A DRAINING
slot's drain completes at the last of these ends (R35). -/
def removeProgram (k : SlotIndex) (reason : EndReason) (s : State) : Ended :=
  let e := endContexts (ofSlot k) reason s
  match (s.slot k).status with
  | .active _ => { e with state := e.state.modifySlot k emptySlot }
  | _ => e

/-- R35: the faulty item is removed, according to its location kind. -/
def removeFaulty (l : Location) (s : State) : Ended :=
  match l with
  | .matchEntry i => ⟨s.setEntry i .cleared, 0, []⟩
  | .program k => removeProgram k .fault s
  | .context i => endNext (fun _ => true) .fault ⟨s, 0, []⟩ i

/-- R34, R36 step 1: the latch keeps the location of the first fault. -/
def latchFault (l : Location) (s : State) : State :=
  match s.faultLatch with
  | none => { s with faultLatch := some l }
  | some _ => s

/-- R36 step 3: in MONITOR and ENFORCE the mode changes to BYPASS; INSTALLED events come before MODE_CHANGED, whose
info counts every context that the fault ended. In BYPASS nothing more is done (R38). -/
def faultToBypass (e : Ended) (s : State) : State :=
  match s.mode with
  | .bypass => offerAll e.events s
  | _ =>
    let b := changeToBypass .fault s
    offer (modeChangedEvent .bypass (e.count + b.count)) (offerAll (e.events ++ b.events) b.state)

/-- R35, R36, R38: an integrity fault at this item. -/
def integrityFault (l : Location) (s : State) : State :=
  let e := removeFaulty l s
  faultToBypass e (offer (faultEvent l) (latchFault l e.state))

/-- R34: the happening's damage hits a read of this item. -/
def damaged (d : Damage) (l : Location) : Bool := d == some l

end Sys2Proof.Machine
end

