-- ==== Sys2Proof/Machine/Evaluation.lean ====
section
/-! DEFINITION. Frame evaluation by the watch engine (chapter 5) and the expiry of a deadline (chapter 6), which share
the arming of deadlines, the live alarm count and the alarm entry rule. -/

namespace Sys2Proof.Machine

/-! ### Entering a state -/

/-- R78: the live alarm count after a move between states of these kinds. -/
def moveAlarm (before after : Bool) (n : Nat) : Nat :=
  match before, after with
  | false, true => n + 1
  | true, false => n - 1
  | _, _ => n

/-- R103, R120: the alarm entry rule, once the live alarm count has been updated: a clear latch is set and an
ALARM_RAISED event is to be offered. -/
def alarmEntry (k : SlotIndex) (initiator responder : Byte) (before after : StateIndex) (s : State) :
    State × List EventBody :=
  if (s.slot k).latched then (s, [])
  else
    (s.modifySlot k (fun x => { x with latched := true }),
      [alarmRaisedEvent k initiator responder before after (s.slot k).liveAlarms])

/-- R100, R101, R117: the context's record in the state `t`: the deadline is armed afresh (R114), and the retry count is
set to 0 when the state changes. -/
def armed (img : Image) (now : Word32) (t : StateIndex) (c : Context) : Context :=
  { c with
    state := t
    deadline := now + (img.state t).timeout.setWidth 32
    retryCount := if t = c.state then c.retryCount else 0 }

/-- R100, R101, R117: the context at index `i`, with record `c` so far, enters the state `t`. -/
def enterState (i : ContextIndex) (img : Image) (c : Context) (t : StateIndex) (s : State) :
    State × List EventBody :=
  let before := (img.state c.state).alarm
  let after := (img.state t).alarm
  let s := (s.setContext i (some (armed img s.tick t c))).modifySlot c.slot
    (fun x => { x with liveAlarms := moveAlarm before after x.liveAlarms })
  if !before && after then alarmEntry c.slot c.initiator c.responder c.state t s else (s, [])

/-- R97, R100, R101: the record `c` is written and the context stays (none), ends with reason END, or enters a state. -/
def applyMove (i : ContextIndex) (img : Image) (c : Context) (m : Option Target) (s : State) :
    State × List EventBody :=
  match m with
  | none => (s.setContext i (some c), [])
  | some .finish => endContext i .finish s
  | some (.state t) => enterState i img c t s

/-- R55, R107: the event of a setting; none when the setting is none. -/
def programEvent (cls : EventClass) (e : Option EventSetting) (k : SlotIndex) (initiator responder : Byte)
    (before : StateIndex) (after : Target) (info : Byte) : List EventBody :=
  match e with
  | none => []
  | some e => [⟨cls, e.level, e.code, some k, some initiator, some responder, some before, some after, info⟩]

/-! ### Matching (R92, R98, R99) -/

/-- R54, R98: the payload test. -/
def payloadHolds (test : Option PayloadTest) (payload : List Byte) : Bool :=
  match test with
  | none => true
  | some t =>
    match payload[t.offset.val]? with
    | none => false
    | some b => b &&& t.mask == t.value &&& t.mask

/-- R54, R99: the relation of a frame's sequence to the last forward sequence `last`. -/
def relationHolds (r : Relation) (last sequence : BitVec 4) : Bool :=
  match r with
  | .any => true
  | .next => sequence == last + 1#4
  | .same => sequence == last
  | .new => sequence != last

/-- R92, R98: the frame's kind lies in the position's range. -/
def kindHolds (low high kind : BitVec 6) : Bool := decide (low ≤ kind) && decide (kind ≤ high)

/-- R92: an anchor accepts a frame. -/
def anchorAccepts (f : Frame) (t : Transition) : Bool :=
  t.fromState == 0 && kindHolds t.kindLow t.kindHigh f.kind && (t.relation == .any || t.relation == .new) &&
    payloadHolds t.test f.payload

/-- R98: a position accepts a frame of a live context in state `st`, with last forward sequence `last`. -/
def positionAccepts (st : StateIndex) (dir : Direction) (last : BitVec 4) (f : Frame) (t : Transition) : Bool :=
  t.fromState == st && t.direction == dir && kindHolds t.kindLow t.kindHigh f.kind &&
    relationHolds t.relation last f.sequence && payloadHolds t.test f.payload

/-- R92, R98: the first filled position, in ascending order, that accepts. -/
def firstPosition (img : Image) (accepts : Transition → Bool) : Option Transition :=
  positionIndices.findSome? (fun p => (img.positions[p]).filter accepts)

/-! ### Frames without a context (section 5.2) -/

/-- What an evaluation leaves: the state, with its events offered, and the verdict before R28. -/
structure Evaluated where
  state : State
  verdict : Verdict
  deriving DecidableEq, Repr

/-- R91, R92: the frame is unanchored. -/
def unanchored (k : SlotIndex) (s : State) : Evaluated := ⟨s.countSlot k .unanchored, .pass⟩

/-- R72 step 1: the free context with the lowest index. -/
def freeIndex (s : State) : Option ContextIndex := contextIndices.find? (fun i => (s.context i).isNone)

/-- R66, R72: a context at its creation. -/
def newContext (k : SlotIndex) (img : Image) (f : Frame) (t : StateIndex) (s : State) : Context :=
  { slot := k, generation := (s.slot k).generation, initiator := f.source, responder := f.dest, state := t
    deadline := s.tick + (img.state t).timeout.setWidth 32, lastSequence := f.sequence, retryCount := 0
    framesTaken := 1, createdTick := s.tick }

/-- R72, R94: creation at the free index `i`; an entry into a state of kind ALARM raises the alarm. -/
def createContext (k : SlotIndex) (img : Image) (f : Frame) (t : StateIndex) (i : ContextIndex) (s : State) :
    State × List EventBody :=
  let alarm := (img.state t).alarm
  let s := (s.setContext i (some (newContext k img f t s))).modifySlot k (fun x =>
    { x with
      contextCount := x.contextCount + 1
      liveAlarms := if alarm then x.liveAlarms + 1 else x.liveAlarms
      counters := raiseSlot .created x.counters })
  if alarm then alarmEntry k f.source f.dest 0 t s else (s, [])

/-- R74, R75: an anchor refused while the table is full. -/
def refuseAnchor (k : SlotIndex) (img : Image) (f : Frame) (s : State) : Evaluated :=
  let s := s.countSlot k .overflowRefusals
  if (s.slot k).fullReported then ⟨s, img.header.overflow⟩
  else
    ⟨offer (contextFullEvent k f.source f.dest) (s.modifySlot k (fun x => { x with fullReported := true })),
      img.header.overflow⟩

/-- R93, R94, R74: the anchor `t` is taken. -/
def takeAnchor (k : SlotIndex) (img : Image) (f : Frame) (t : Transition) (s : State) : Evaluated :=
  let told := programEvent .transition t.event k f.source f.dest 0 t.target (f.kind.setWidth 8)
  match t.target with
  | .finish => ⟨offerAll told s, t.verdict⟩
  | .state st =>
    match freeIndex s with
    | some i =>
      let r := createContext k img f st i s
      ⟨offerAll (told ++ r.2) r.1, t.verdict⟩
    | none => refuseAnchor k img f s

/-- R92: an anchor attempt. -/
def anchorAttempt (k : SlotIndex) (img : Image) (f : Frame) (s : State) : Evaluated :=
  match firstPosition img (anchorAccepts f) with
  | some t => takeAnchor k img f t s
  | none => unanchored k s

/-! ### Frames of a live context (section 5.3) -/

/-- R70: the direction of a frame that finds its context. -/
def frameDirection (f : Frame) (c : Context) : Direction :=
  if f.source = c.initiator then .forward else .reverse

/-- R96: the frame is a retransmission. -/
def retransmits (f : Frame) (c : Context) : Bool :=
  frameDirection f c == .forward && f.sequence == c.lastSequence

/-- R95, R96, R102: the record after the retransmission check and the count of frames taken. -/
def takenRecord (f : Frame) (c : Context) : Context :=
  match frameDirection f c with
  | .forward =>
    { c with
      framesTaken := satInc c.framesTaken, lastSequence := f.sequence
      retryCount := if f.sequence = c.lastSequence then satInc c.retryCount else 0 }
  | .reverse => { c with framesTaken := satInc c.framesTaken }

/-- R96: a retransmission takes the retry count over the state's limit; 15 is no limit. -/
def hitsLimit (img : Image) (f : Frame) (c : Context) : Bool :=
  let limit := (img.state c.state).retryLimit
  retransmits f c && limit != 15#4 && decide (limit < (takenRecord f c).retryCount)

/-- R107: the to-state of a program event. -/
def toState (c : Context) : Option Target → Target
  | none => .state c.state
  | some t => t

/-- R97, R100, R101, R108: the move is applied to the record `c`, then the events are offered: the program event, then
ALARM_RAISED or INSTALLED. -/
def finishFrame (i : ContextIndex) (img : Image) (c : Context) (m : Option Target) (cls : EventClass)
    (event : Option EventSetting) (verdict : Verdict) (f : Frame) (s : State) : Evaluated :=
  let r := applyMove i img c m s
  ⟨offerAll (programEvent cls event c.slot c.initiator c.responder c.state (toState c m) (f.kind.setWidth 8) ++ r.2)
      r.1, verdict⟩

/-- R97: a retry-limit hit. -/
def retryLimitHit (i : ContextIndex) (img : Image) (c : Context) (f : Frame) (s : State) : Evaluated :=
  let u := img.header.unexpected
  finishFrame i img { takenRecord f c with retryCount := 0 } u.target.move? .retryLimit u.event u.verdict f
    (s.countSlot c.slot .retryLimitHits)

/-- R101: an unexpected frame. -/
def unexpectedFrame (i : ContextIndex) (img : Image) (c : Context) (f : Frame) (s : State) : Evaluated :=
  let u := img.header.unexpected
  finishFrame i img (takenRecord f c) u.target.move? .unexpected u.event u.verdict f
    (s.countSlot c.slot .unexpected)

/-- R100: a transition is taken. -/
def takeTransition (i : ContextIndex) (img : Image) (c : Context) (t : Transition) (f : Frame) (s : State) :
    Evaluated :=
  finishFrame i img (takenRecord f c) (some t.target) .transition t.event t.verdict f s

/-- R90, R95 to R101: a frame of the live context `c` at index `i`. -/
def evaluateLive (i : ContextIndex) (img : Image) (c : Context) (f : Frame) (s : State) : Evaluated :=
  if hitsLimit img f c then retryLimitHit i img c f s
  else
    match firstPosition img (positionAccepts c.state (frameDirection f c) c.lastSequence f) with
    | some t => takeTransition i img c t f s
    | none => unexpectedFrame i img c f s

/-! ### The evaluation (R88 to R90) -/

/-- R69, R70: the context's slot and unordered pair are these. -/
def keyMatches (k : SlotIndex) (source dest : Byte) (c : Context) : Bool :=
  c.slot == k && ((c.initiator == source && c.responder == dest) || (c.initiator == dest && c.responder == source))

/-- R70: the lookup. -/
def lookup (k : SlotIndex) (source dest : Byte) (s : State) : Option ContextIndex :=
  contextIndices.find? (fun i => (s.context i).any (keyMatches k source dest))

/-- R90: the path of a frame once its reads have passed. -/
def evaluateSound (k : SlotIndex) (img : Image) (draining : Bool) (f : Frame) (s : State) : Evaluated :=
  match lookup k f.source f.dest s with
  | some i =>
    match s.context i with
    | some c => evaluateLive i img c f s
    | none => unanchored k s
  | none => if draining then unanchored k s else anchorAttempt k img f s

/-- R89: the item that the evaluation reads and finds damaged, if any: the slot's image, or the context found. -/
def evaluationFault (k : SlotIndex) (f : Frame) (d : Damage) (s : State) : Option Location :=
  if damaged d (.program k) then d
  else
    match lookup k f.source f.dest s with
    | some i => if damaged d (.context i) then d else none
    | none => none

/-! ### Expiry (section 6.3) -/

/-- R116: the context at index `i` is due. -/
def due (i : ContextIndex) (s : State) : Bool := (s.context i).any (fun c => c.deadline == s.tick)

/-- R117 to R120: the expiry of context `c` at index `i`, its reads having passed. -/
def expireContext (i : ContextIndex) (img : Image) (c : Context) (s : State) : State :=
  let r := img.state c.state
  let told := programEvent .timeout r.event c.slot c.initiator c.responder c.state r.target (c.retryCount.setWidth 8)
  match r.target with
  | .finish =>
    let e := endContext i .timeout s
    offerAll (told ++ e.2) e.1
  | .state t =>
    let e := enterState i img { c with retryCount := 0 } t s
    offerAll (told ++ e.2) e.1

/-- R116: a due expiry is taken: its reads of the context and of the slot's image, then its effects. -/
def takeExpiry (i : ContextIndex) (d : Damage) (s : State) : State :=
  match s.context i with
  | none => s
  | some c =>
    if damaged d (.context i) then integrityFault (.context i) s
    else
      match (s.slot c.slot).status.image with
      | none => s
      | some img =>
        if damaged d (.program c.slot) then integrityFault (.program c.slot) s else expireContext i img c s

/-- R116: the expiry of the context at index `i`; nothing is taken for a context that is not due. -/
def expireIfDue (i : ContextIndex) (d : Damage) (s : State) : State := if due i s then takeExpiry i d s else s

end Sys2Proof.Machine
end

