-- ==== Sys2Proof/Machine/Classification.lean ====
section
/-! DEFINITION. The classifier's handling of a transit frame (sections 2.1 to 2.3) and the fate that its port settles
(section 1.4). -/

namespace Sys2Proof.Machine

/-- R24: the port test of an entry. -/
def portAdmits (ports : IngressPorts) (p : Port) : Bool :=
  match ports, p with
  | .both, _ => true
  | .a, .a => true
  | .b, .b => true
  | _, _ => false

/-- R24: a node test; ANY is none. -/
def nodeAdmits (n : Option Byte) (b : Byte) : Bool := n.all (fun x => x == b)

/-- R24: a valid entry matches a frame received at port `p`. -/
def entryMatches (p : Port) (f : Frame) (e : MatchEntry) : Bool :=
  e.valid && portAdmits e.ports p && nodeAdmits e.source f.source && nodeAdmits e.dest f.dest &&
    kindHolds e.kindLow e.kindHigh f.kind

/-- R25, R34, R37: what a scan of the match table finds. -/
inductive Scan where
  | faulty (i : EntryIndex)
  | matched (i : EntryIndex)
  | unmatched
  deriving DecidableEq, Repr

/-- R25, R34: the scan reads each entry that it reaches, valid or not; it stops at a damaged entry or at the first that
matches. -/
def scanEntries (p : Port) (f : Frame) (d : Damage) (s : State) : List EntryIndex → Scan
  | [] => .unmatched
  | i :: rest =>
    if damaged d (.matchEntry i) then .faulty i
    else if entryMatches p f (s.entry i) then .matched i
    else scanEntries p f d s rest

/-- R25: the entry's hit counter rises by 1. -/
def countHit (i : EntryIndex) (s : State) : State :=
  s.setEntry i { s.entry i with hits := satInc (s.entry i).hits }

/-- R28: the hold-on-alarm override, tested on what the evaluation leaves. -/
def holdOnAlarm (k : SlotIndex) (e : Evaluated) : Evaluated :=
  if (e.state.slot k).latched && (e.state.slot k).status.image.any (fun img => img.header.holdOnAlarm) then
    { e with verdict := .drop }
  else e

/-- What classification leaves: the state, and the verdict unless a fault took it away (R37). -/
structure Classified where
  state : State
  verdict : Option Verdict
  deriving DecidableEq, Repr

/-- R27, R28: a frame matched to a WATCH entry that names an ACTIVE or DRAINING slot. -/
def watchFrame (k : SlotIndex) (img : Image) (draining : Bool) (f : Frame) (d : Damage) (s : State) : Classified :=
  if f.dest = Config.broadcast then
    let e := holdOnAlarm k ⟨s, .pass⟩
    ⟨e.state, some e.verdict⟩
  else
    match evaluationFault k f d s with
    | some l => ⟨integrityFault l s, none⟩
    | none =>
      let e := holdOnAlarm k (evaluateSound k img draining f s)
      ⟨e.state, some e.verdict⟩

/-- R26, R27: the verdict of a frame matched to an entry with this action. -/
def actOn (a : Action) (f : Frame) (d : Damage) (s : State) : Classified :=
  match a with
  | .pass => ⟨s, some .pass⟩
  | .drop => ⟨s, some .drop⟩
  | .watch k =>
    match (s.slot k).status with
    | .empty => ⟨s, some .pass⟩
    | .active img => watchFrame k img false f d s
    | .draining img => watchFrame k img true f d s

/-- R25 to R28, R37: classification of a transit frame received at port `p`. -/
def classify (p : Port) (f : Frame) (d : Damage) (s : State) : Classified :=
  match scanEntries p f d s entryIndices with
  | .faulty i => ⟨integrityFault (.matchEntry i) s, none⟩
  | .matched i => actOn (s.entry i).action f d (countHit i s)
  | .unmatched => ⟨s, some s.defaultAction⟩

/-- R7 steps 3 to 5: the frame received at `p` is discarded or placed in the other port's transit queue, and that
port's arbiter may select it (R13). -/
def forward (p : Port) (f : Frame) (s : State) : State :=
  if !(s.port p.other).up then s.count p .linkDownDiscards 1
  else if Config.transitDepth ≤ (s.port p.other).queue.length then s.count p .congestionDiscards 1
  else select p.other (s.modifyPort p.other (fun q => { q with queue := q.queue ++ [f.raw] }))

/-- R7 steps 1 and 2: the fate of a classified frame in this mode. -/
def settleFate (m : Mode) (p : Port) (f : Frame) (c : Classified) : State :=
  match c.verdict with
  | some .drop =>
    if m = .enforce then c.state.count p .verdictDrops 1 else forward p f (c.state.count p .wouldDrops 1)
  | some .pass => forward p f c.state
  | none => forward p f c.state

/-- R7, R30: the handling of a transit frame received at `p`, wholly under the mode in force at its taking. -/
def handleTransit (p : Port) (f : Frame) (d : Damage) (s : State) : State :=
  match s.mode with
  | .bypass => forward p f s
  | m => settleFate m p f (classify p f d s)

end Sys2Proof.Machine
end

