-- ==== Sys2Proof/Machine/PortRequests.lean ====
section
/-! DEFINITION. What a request's own rule does (R153), and the two requests owned by the ports (section 1.8). -/

namespace Sys2Proof.Machine

/-- What a request's own rule leaves: the state with the request's effects, and the status and data of its response. -/
structure Reply where
  state : State
  status : Status
  data : List Byte
  deriving DecidableEq, Repr

/-- A refusal that changes nothing, with empty data (R153, R154). -/
def refuse (st : Status) (s : State) : Reply := ⟨s, st, []⟩

/-- R19: READ_PORT_COUNTERS. -/
def performReadPortCounters (params : List Byte) (s : State) : Reply :=
  match params with
  | [p] =>
    match parsePort p with
    | none => refuse .outOfRange s
    | some p =>
      ⟨s, .ok, flagByte (s.port p).up :: (portCounterList (s.port p).counters).flatMap bytes32⟩
  | _ => refuse .badRequest s

/-- R20: the selectors of CLEAR_COUNTERS. -/
inductive CounterSelector where
  | port (p : Port)
  | slot (k : SlotIndex)
  | everything
  deriving DecidableEq, Repr

/-- R20: 00h, 01h a port; 10h to 17h a slot; FFh all. -/
def parseSelector (b : Byte) : Option CounterSelector :=
  if b = 0x00#8 then some (.port .a)
  else if b = 0x01#8 then some (.port .b)
  else if b = 0xFF#8 then some .everything
  else if 0x10#8 ≤ b then (parseFin 8 (b - 0x10#8)).map .slot
  else none

/-- R20: a port's counters are set to 0. -/
def clearPortCounters (p : Port) (s : State) : State := s.modifyPort p (fun q => { q with counters := .zero })

/-- R20: the counters that the selector names are set to 0. -/
def clearSelected (c : CounterSelector) (s : State) : State :=
  match c with
  | .port p => clearPortCounters p s
  | .slot k => s.modifySlot k clearSlotCounters
  | .everything => (((clearPortCounters .b (clearPortCounters .a s)).modifySlots clearSlotCounters)).clearHits

/-- R20: CLEAR_COUNTERS. -/
def performClearCounters (params : List Byte) (s : State) : Reply :=
  match params with
  | [b] =>
    match parseSelector b with
    | none => refuse .outOfRange s
    | some c => ⟨clearSelected c s, .ok, []⟩
  | _ => refuse .badRequest s

end Sys2Proof.Machine
end

