-- ==== Sys2Proof/Machine/ClassifierRequests.lean ====
section
/-! DEFINITION. The four requests owned by the classifier (section 2.5). -/

namespace Sys2Proof.Machine

/-- R31, R32, R39: the mode is set to `m`; the number of contexts that the change ended comes with the state. A mode
already in force is no change. -/
def changeMode (m : Mode) (s : State) : State × Nat :=
  if m = s.mode then (s, 0)
  else if m = .bypass then
    let e := changeToBypass .mode s
    (offer (modeChangedEvent .bypass e.count) (offerAll e.events e.state), e.count)
  else (offer (modeChangedEvent m 0) { s with mode := m }, 0)

/-- R39: SET_MODE. -/
def performSetMode (params : List Byte) (s : State) : Reply :=
  match params with
  | [m, a] =>
    match parseMode m, parseVerdict a with
    | some m, some a =>
      if m ≠ .bypass ∧ s.faultLatch.isSome then refuse .faulted s
      else
        let r := changeMode m { s with defaultAction := a }
        ⟨r.1, .ok, [modeByte s.mode, countByte r.2]⟩
    | _, _ => refuse .outOfRange s
  | _ => refuse .badRequest s

/-- R40: CLEAR_FAULT. -/
def performClearFault (s : State) : Reply :=
  ⟨{ s with faultLatch := none }, .ok, [flagByte s.faultLatch.isSome]⟩

/-- R41: WRITE_MATCH. -/
def performWriteMatch (params : List Byte) (s : State) : Reply :=
  match parseEntry params with
  | none => refuse .outOfRange s
  | some (i, e) => ⟨s.setEntry i e, .ok, []⟩

/-- R42: READ_MATCH; a damaged entry is removed first and returns its cleared values (R37). -/
def performReadMatch (params : List Byte) (d : Damage) (s : State) : Reply :=
  match params with
  | [i] =>
    match parseFin 48 i with
    | none => refuse .outOfRange s
    | some i =>
      let s := if damaged d (.matchEntry i) then integrityFault (.matchEntry i) s else s
      ⟨s, .ok, entryBytes (s.entry i)⟩
  | _ => refuse .badRequest s

end Sys2Proof.Machine
end

