-- ==== Sys2Proof/Machine/Validation.lean ====
section
/-! DEFINITION. Validation of a staged image (section 3.4). -/

namespace Sys2Proof.Machine

/-- R57: the reasons of a failure. -/
inductive FailReason where
  | noStates | timeoutUnset | badTarget | badFrom | badKindRange | startNotForward | badRelation | noEntry
  deriving DecidableEq, Repr

/-- R57: the place of a failure, with its index. -/
inductive FailPlace where
  | header
  | state (t : StateIndex)
  | transition (p : Position)
  | whole
  deriving DecidableEq, Repr

/-- R57: a failure. -/
structure Failure where
  reason : FailReason
  place : FailPlace
  deriving DecidableEq, Repr

/-- R57: reason, place and index, as STAGE_COMMIT's data carries them. -/
def failureBytes (x : Failure) : List Byte :=
  [match x.reason with
    | .noStates => 0x01#8
    | .timeoutUnset => 0x02#8
    | .badTarget => 0x03#8
    | .badFrom => 0x04#8
    | .badKindRange => 0x05#8
    | .startNotForward => 0x06#8
    | .badRelation => 0x07#8
    | .noEntry => 0x08#8,
   match x.place with
    | .header => 0x00#8
    | .state _ => 0x01#8
    | .transition _ => 0x02#8
    | .whole => 0x03#8,
   match x.place with
    | .header => 0xFF#8
    | .state t => finByte t
    | .transition p => finByte p
    | .whole => 0xFF#8]

/-- A target that is a state at or above the state count (R58). -/
def badTarget (count : Fin 17) : Target → Bool
  | .state t => decide (count.val ≤ t.val)
  | .finish => false

/-- R58 step 1. -/
def checkHeader (h : Header) : Option Failure :=
  if h.stateCount.val = 0 then some ⟨.noStates, .header⟩
  else if h.unexpected.target.move?.any (badTarget h.stateCount) then some ⟨.badTarget, .header⟩
  else none

/-- R58 step 2: one state record. -/
def checkState (count : Fin 17) (t : StateIndex) (r : StateRecord) : Option Failure :=
  if r.timeout = 0 then some ⟨.timeoutUnset, .state t⟩
  else if badTarget count r.target then some ⟨.badTarget, .state t⟩
  else none

/-- R58 step 2: the records below the state count, in ascending index. -/
def checkStates (img : Image) : Option Failure :=
  (List.finRange 16).findSome? (fun t =>
    if t.val < img.header.stateCount.val then checkState img.header.stateCount t img.states[t] else none)

/-- R58 step 3: one filled position. -/
def checkTransition (count : Fin 17) (p : Position) (t : Transition) : Option Failure :=
  if count.val ≤ t.fromState.val then some ⟨.badFrom, .transition p⟩
  else if badTarget count t.target then some ⟨.badTarget, .transition p⟩
  else if t.kindHigh < t.kindLow then some ⟨.badKindRange, .transition p⟩
  else if t.fromState = 0 ∧ t.direction = .reverse then some ⟨.startNotForward, .transition p⟩
  else if (t.relation = .next ∨ t.relation = .same) ∧ (t.direction = .reverse ∨ t.fromState = 0) then
    some ⟨.badRelation, .transition p⟩
  else none

/-- R58 step 3: the filled positions, in ascending position. -/
def checkTransitions (img : Image) : Option Failure :=
  positionIndices.findSome? (fun p => (img.positions[p]).bind (checkTransition img.header.stateCount p))

/-- R58 step 4. -/
def checkWhole (img : Image) : Option Failure :=
  if positionIndices.any (fun p => (img.positions[p]).any (fun t => t.fromState == 0)) then none
  else some ⟨.noEntry, .whole⟩

/-- R57, R58: the first check that fails; none when the image is valid. -/
def validate (img : Image) : Option Failure :=
  (checkHeader img.header).or ((checkStates img).or ((checkTransitions img).or (checkWhole img)))

end Sys2Proof.Machine
end

