-- ==== Sys2Proof/Machine/ProgramRequests.lean ====
section
/-! DEFINITION. The requests owned by the program store (section 3.6) and by the staging buffer (chapter 10). -/

namespace Sys2Proof.Machine

/-! ### Reads of the program store -/

/-- R34, R37: a read of a slot's installed image; a damaged image is taken as a fault first. -/
def readImage (k : SlotIndex) (d : Damage) (s : State) : State :=
  if (s.slot k).status.image.isSome && damaged d (.program k) then integrityFault (.program k) s else s

/-- R63: the slot part. -/
def slotBytes (x : Slot) : List Byte :=
  [slotStatusByte x.status, x.generation, countByte x.contextCount, countByte x.liveAlarms, flagByte x.latched,
    flagByte x.fullReported]

/-- R63: the state part, left out at or above the state count. -/
def statePart (img : Image) (t : StateIndex) : List Byte :=
  if t.val < img.header.stateCount.val then stateBytes t (img.state t) else []

/-- R63: the header and state parts of a slot that holds an image. -/
def imageBytes (x : Slot) (t : StateIndex) : List Byte :=
  match x.status.image with
  | none => []
  | some img => headerBytes img.header ++ statePart img t

/-- R63: READ_SLOT. -/
def performReadSlot (params : List Byte) (d : Damage) (s : State) : Reply :=
  match params with
  | [k, t] =>
    match parseFin 8 k, parseFin 16 t with
    | some k, some t =>
      let s := readImage k d s
      ⟨s, .ok, slotBytes (s.slot k) ++ imageBytes (s.slot k) t⟩
    | _, _ => refuse .outOfRange s
  | _ => refuse .badRequest s

/-- R64: the filled byte and the fields of a position. -/
def positionBytes : Option Transition → List Byte
  | none => [0x00#8]
  | some t => 0x01#8 :: transitionBytes t

/-- R64: READ_TRANSITION; it is answered from the state that a fault leaves. R64 gives no order between its two refusals:
a position above 47 naming an EMPTY slot is answered OUT_OF_RANGE, the parameters being judged before the slot's state
or image is read (DESIGN CHOICE, notes/assumptions/15.md). -/
def performReadTransition (params : List Byte) (d : Damage) (s : State) : Reply :=
  match params with
  | [k, p] =>
    match parseFin 8 k, parseFin 48 p with
    | some k, some p =>
      let s := readImage k d s
      match (s.slot k).status.image with
      | none => refuse .wrongState s
      | some img =>
        ⟨s, .ok,
          [slotStatusByte (s.slot k).status, (s.slot k).generation, finByte p] ++ positionBytes img.positions[p]⟩
    | _, _ => refuse .outOfRange s
  | _ => refuse .badRequest s

/-- R65: READ_SLOT_COUNTERS. -/
def performReadSlotCounters (params : List Byte) (s : State) : Reply :=
  match params with
  | [k] =>
    match parseFin 8 k with
    | none => refuse .outOfRange s
    | some k =>
      ⟨s, .ok,
        [slotStatusByte (s.slot k).status, (s.slot k).generation] ++
          (slotCounterList (s.slot k).counters).flatMap bytes32⟩
  | _ => refuse .badRequest s

/-! ### Building an image (section 10.2) -/

/-- R174: a state record of the cleared image. -/
def clearedRecord : StateRecord := ⟨0#16, .state 0, none, false, 0#4⟩

/-- R174: the cleared image. -/
def clearedImage : Image :=
  { header := ⟨0, false, .pass, ⟨.stay, .pass, none⟩⟩
    states := Vector.replicate 16 clearedRecord
    positions := Vector.replicate 48 none }

/-- R174: STAGE_BEGIN. -/
def performStageBegin (s : State) : Reply :=
  match s.staging with
  | .empty => ⟨{ s with staging := .opened clearedImage }, .ok, [0x00#8]⟩
  | .opened _ => ⟨{ s with staging := .opened clearedImage }, .ok, [0x01#8]⟩
  | .pending _ _ => refuse .busy s

/-- R175: a write whose parameters are in range replaces one part of an OPEN image; in any other staging state it is
refused. -/
def writeImage (f : Image → Image) (s : State) : Reply :=
  match s.staging with
  | .opened img => ⟨{ s with staging := .opened (f img) }, .ok, []⟩
  | .empty => refuse .wrongState s
  | .pending _ _ => refuse .wrongState s

/-- R175: STAGE_HEADER. -/
def performStageHeader (params : List Byte) (s : State) : Reply :=
  match parseHeader params with
  | none => refuse .outOfRange s
  | some h => writeImage (fun img => { img with header := h }) s

/-- R175: STAGE_STATE. -/
def performStageState (params : List Byte) (s : State) : Reply :=
  match parseState params with
  | none => refuse .outOfRange s
  | some (t, r) => writeImage (fun img => { img with states := img.states.set t r }) s

/-- R175: a position is filled or emptied. -/
def setPosition (p : Position) (t : Option Transition) (img : Image) : Image :=
  { img with positions := img.positions.set p t }

/-- R175: STAGE_TRANSITION, in its 1-byte form or its 14-byte form. -/
def performStageTransition (params : List Byte) (s : State) : Reply :=
  match params with
  | [p] =>
    match parseFin 48 p with
    | none => refuse .outOfRange s
    | some p => writeImage (setPosition p none) s
  | _ =>
    match parseTransition params with
    | none => refuse .outOfRange s
    | some (p, t) => writeImage (setPosition p (some t)) s

/-! ### Commit, abort and erase (sections 10.3, 10.4) -/

/-- R176: the data of a commit that is carried out. -/
def commitData (k : SlotIndex) (n : Nat) (s : State) : List Byte :=
  [slotStatusByte (s.slot k).status, (s.slot k).generation, countByte n]

/-- R177: an install at once. -/
def commitNow (k : SlotIndex) (img : Image) (s : State) : Reply :=
  let e := endContexts (ofSlot k) .superseded s
  let told := offerAll e.events e.state
  let told := if 0 < e.count then offer (supersededEvent k e.count) told else told
  let s := { install k img told with staging := .empty }
  ⟨s, .ok, commitData k e.count s⟩

/-- R44, R178: an ACTIVE slot becomes DRAINING and keeps its image. -/
def drainSlot (x : Slot) : Slot :=
  match x.status with
  | .active img => { x with status := .draining img }
  | .draining _ => x
  | .empty => x

/-- R178: a drain begins. -/
def commitDrain (k : SlotIndex) (img : Image) (s : State) : Reply :=
  let s := ({ s with staging := .pending img k }).modifySlot k drainSlot
  ⟨s, .ok, commitData k (s.slot k).contextCount s⟩

/-- R177, R178: a valid image is committed to slot `k`, in DRAIN mode or in REPLACE mode. -/
def commitImage (drain : Bool) (k : SlotIndex) (img : Image) (s : State) : Reply :=
  match drain, (s.slot k).status with
  | true, .active _ => if (s.slot k).contextCount = 0 then commitNow k img s else commitDrain k img s
  | _, _ => commitNow k img s

/-- R176: STAGE_COMMIT. -/
def performStageCommit (params : List Byte) (s : State) : Reply :=
  match params with
  | [k, m] =>
    match parseFin 8 k, parseFlag m with
    | some k, some drain =>
      match s.staging with
      | .opened img =>
        match validate img with
        | some x => ⟨s, .invalidProgram, failureBytes x⟩
        | none => commitImage drain k img s
      | .empty => refuse .wrongState s
      | .pending _ _ => refuse .wrongState s
    | _, _ => refuse .outOfRange s
  | _ => refuse .badRequest s

/-- R179: STAGE_ABORT. -/
def performStageAbort (s : State) : Reply :=
  match s.staging with
  | .opened _ => ⟨discardStaging s, .ok, [0x01#8]⟩
  | .pending _ _ => ⟨discardStaging s, .ok, [0x02#8]⟩
  | .empty => refuse .wrongState s

/-- R180: an ACTIVE slot is emptied under R47, and its counters are cleared. -/
def eraseActive (k : SlotIndex) (s : State) : Reply :=
  let e := removeProgram k .erased s
  ⟨offerAll e.events (e.state.modifySlot k clearSlotCounters), .ok, [0x01#8, countByte e.count]⟩

/-- R180: ERASE_SLOT. -/
def performEraseSlot (params : List Byte) (s : State) : Reply :=
  match params with
  | [k] =>
    match parseFin 8 k with
    | none => refuse .outOfRange s
    | some k =>
      match (s.slot k).status with
      | .empty => ⟨s, .ok, [0x00#8, 0x00#8]⟩
      | .active _ => eraseActive k s
      | .draining _ => refuse .busy s
  | _ => refuse .badRequest s

end Sys2Proof.Machine
end

