-- ==== Sys2Proof/Machine/ContextRequests.lean ====
section
/-! DEFINITION. The three requests owned by the watch engine (section 4.8). -/

namespace Sys2Proof.Machine

/-- R34, R37: a read of a context in use; a damaged one is taken as a fault first. -/
def readRecord (i : ContextIndex) (d : Damage) (s : State) : State :=
  if (s.context i).isSome && damaged d (.context i) then integrityFault (.context i) s else s

/-- R84, R123: the ticks that remain to the deadline, modulo 2^32; the field is 2 bytes and a context in use has at most
65535 remaining. -/
def remainingTicks (c : Context) (s : State) : Word16 := (c.deadline - s.tick).setWidth 16

/-- R84: the data of READ_CONTEXT. -/
def contextBytes (i : ContextIndex) (s : State) : List Byte :=
  match s.context i with
  | none => [finByte i, 0x00#8]
  | some c =>
    [finByte i, 0x01#8, finByte c.slot, c.generation, c.initiator, c.responder, finByte c.state] ++
      bytes16 (remainingTicks c s) ++ [c.lastSequence.setWidth 8, c.retryCount.setWidth 8] ++
      bytes16 c.framesTaken ++ bytes32 c.createdTick ++ bytes32 c.deadline

/-- R84: READ_CONTEXT. -/
def performReadContext (params : List Byte) (d : Damage) (s : State) : Reply :=
  match params with
  | [i] =>
    match parseFin 96 i with
    | none => refuse .outOfRange s
    | some i =>
      let s := readRecord i d s
      ⟨s, .ok, contextBytes i s⟩
  | _ => refuse .badRequest s

/-- R85: the slot selector; FFh is any slot (none). -/
def parseSlotSelector (b : Byte) : Option (Option SlotIndex) :=
  if b = 0xFF#8 then some none else (parseFin 8 b).map some

/-- R85: the contexts in use that the selector admits, from the start index upward. -/
def admitted (sel : Option SlotIndex) (start : ContextIndex) (s : State) : List ContextIndex :=
  contextIndices.filter (fun i =>
    decide (start ≤ i) && (s.context i).any (fun c => sel.all (fun k => c.slot == k)))

/-- R85: the indices listed. -/
def listed (sel : Option SlotIndex) (start : ContextIndex) (s : State) : List ContextIndex :=
  (admitted sel start s).take Config.listedContexts

/-- R85: the scan passes index `i`: it begins at the start index and stops when 20 have been listed. -/
def scanPasses (sel : Option SlotIndex) (start i : ContextIndex) (s : State) : Bool :=
  decide (start ≤ i) &&
    (decide ((listed sel start s).length < Config.listedContexts) ||
      (listed sel start s).any (fun j => decide (i ≤ j)))

/-- R34, R85: the damaged context in use that the scan passes is taken as a fault. -/
def scanTable (sel : Option SlotIndex) (start : ContextIndex) (d : Damage) (s : State) : State :=
  match d with
  | some (.context i) => if scanPasses sel start i s then readRecord i d s else s
  | _ => s

/-- R85: the data of FIND_CONTEXTS. -/
def findBytes (sel : Option SlotIndex) (start : ContextIndex) (s : State) : List Byte :=
  [countByte (listed sel start s).length,
    flagByte (decide (Config.listedContexts < (admitted sel start s).length))] ++
    (listed sel start s).map finByte

/-- R85: FIND_CONTEXTS. -/
def performFindContexts (params : List Byte) (d : Damage) (s : State) : Reply :=
  match params with
  | [k, i] =>
    match parseSlotSelector k, parseFin 96 i with
    | some sel, some start =>
      let s := scanTable sel start d s
      ⟨s, .ok, findBytes sel start s⟩
    | _, _ => refuse .outOfRange s
  | _ => refuse .badRequest s

/-- R86: the slot, generation, initiator and responder that the guarded form expects. -/
structure Guard where
  slot : SlotIndex
  generation : Byte
  initiator : Byte
  responder : Byte
  deriving DecidableEq, Repr

/-- R86 step 3: the context holds what the guard expects; the nodes are compared as roles. -/
def Guard.holds (g : Guard) (c : Context) : Bool :=
  c.slot == g.slot && c.generation == g.generation && c.initiator == g.initiator && c.responder == g.responder

/-- R86: the accepted request ends the context with reason FORCED. -/
def forceEnd (i : ContextIndex) (c : Context) (s : State) : Reply :=
  let e := endContext i .forced s
  let s := offerAll e.2 e.1
  ⟨s, .ok,
    [finByte c.slot, c.generation, c.initiator, c.responder, finByte c.state, slotStatusByte (s.slot c.slot).status]⟩

/-- R86 steps 2 and 3, R37: a free context, a damaged one, one that the guard does not describe. -/
def endChecked (i : ContextIndex) (g : Option Guard) (d : Damage) (s : State) : Reply :=
  match s.context i with
  | none => ⟨s, .wrongState, [0x00#8]⟩
  | some c =>
    if damaged d (.context i) then ⟨integrityFault (.context i) s, .wrongState, [0x00#8]⟩
    else if g.all (fun g => g.holds c) then forceEnd i c s
    else ⟨s, .wrongState, [0x01#8]⟩

/-- R86: END_CONTEXT, in its plain form or its guarded form. -/
def performEndContext (params : List Byte) (d : Damage) (s : State) : Reply :=
  match params with
  | [i] =>
    match parseFin 96 i with
    | none => refuse .outOfRange s
    | some i => endChecked i none d s
  | [i, k, g, a, b] =>
    match parseFin 96 i, parseFin 8 k with
    | some i, some k =>
      if a = Config.broadcast ∨ b = Config.broadcast then refuse .outOfRange s
      else endChecked i (some ⟨k, g, a, b⟩) d s
    | _, _ => refuse .outOfRange s
  | _ => refuse .badRequest s

end Sys2Proof.Machine
end

