-- ==== Sys2Proof/Machine/EventRequests.lean ====
section
/-! DEFINITION. The requests owned by the event block (chapter 7) and by the report unit (chapter 8). -/

namespace Sys2Proof.Machine

/-- R134: POLL_EVENTS. -/
def performPollEvents (s : State) : Reply :=
  match s.collector.target with
  | some _ => refuse .wrongState s
  | none =>
    let chosen := selected s.events
    ⟨{ s with events := takeEvents chosen s.events, lostCount := 0 }, .ok,
      [countByte chosen.length, s.lostCount] ++ chosen.flatMap (fun e => recordBytes e.serial e.body)⟩

/-- R136: the three bytes of a slot. -/
def alarmBytes (x : Slot) : List Byte := [countByte x.contextCount, countByte x.liveAlarms, flagByte x.latched]

/-- R136: READ_ALARMS. -/
def performReadAlarms (s : State) : Reply := ⟨s, .ok, slotIndices.flatMap (fun k => alarmBytes (s.slot k))⟩

/-- R137: bit `k` of the mask names slot `k`. -/
def maskNames (mask : Byte) (k : SlotIndex) : Bool := mask.getLsbD k.val

/-- R137: the latches that the mask names are cleared. -/
def clearLatches (mask : Byte) (s : State) : State :=
  { s with
    slots := Vector.ofFn (fun (k : Fin 8) =>
      if maskNames mask k then { s.slots[k] with latched := false } else s.slots[k]) }

/-- R137: the mask of the named slots whose latch was set. -/
def latchedMask (mask : Byte) (s : State) : Byte :=
  slotIndices.foldl (fun m k => if maskNames mask k && (s.slot k).latched then m ||| BitVec.twoPow 8 k.val else m) 0#8

/-- R137: CLEAR_ALARMS. -/
def performClearAlarms (params : List Byte) (s : State) : Reply :=
  match params with
  | [mask] => ⟨clearLatches mask s, .ok, [latchedMask mask s]⟩
  | _ => refuse .badRequest s

/-- R142: there is a current report while QUEUED or AWAIT_ACK. -/
def reportCurrent (ph : ReportPhase) : Bool :=
  match ph with
  | .queued => true
  | .awaitAck => true
  | .off => false
  | .idle => false
  | .gap => false

/-- R141 step 4. -/
def startPhase (c : Collector) : ReportPhase := if c.target.isSome then .idle else .off

/-- R141: SET_COLLECTOR. -/
def performSetCollector (params : List Byte) (s : State) : Reply :=
  match parseCollector params with
  | none => refuse .outOfRange s
  | some c =>
    ⟨{ closeReport (startPhase c) 0 (dropCurrent s) with collector := c }, .ok,
      [phaseByte s.report.phase, if reportCurrent s.report.phase then countByte (pinnedCount s.events) else 0#8]⟩

/-- R148: a REPORT_ACK that reaches the report unit. -/
def takeAck (source : Byte) (params : List Byte) (s : State) : State :=
  if s.collector.target.map Prod.fst ≠ some source then
    { s with report := { s.report with foreignAcks := satInc s.report.foreignAcks } }
  else if s.report.phase = .awaitAck ∧ params = bytes16 s.report.serial then endReport (deliverPinned s)
  else { s with report := { s.report with staleAcks := satInc s.report.staleAcks } }

/-- R152: the timer that is running. -/
def timerRemaining (r : ReportUnit) : Word16 :=
  match r.phase with
  | .awaitAck => r.retryTimer
  | .gap => r.gapTimer
  | .off => 0
  | .idle => 0
  | .queued => 0

/-- R152: READ_REPORT_STATUS. -/
def performReadReportStatus (s : State) : Reply :=
  ⟨s, .ok,
    [phaseByte s.report.phase] ++ bytes16 s.report.serial ++ [s.report.retryCount.setWidth 8] ++
      bytes16 (timerRemaining s.report) ++
      [s.report.captured, countByte s.events.length, countByte (pinnedCount s.events), s.lostCount] ++
      bytes32 s.report.staleAcks ++ bytes32 s.report.foreignAcks ++ collectorBytes s.collector⟩

end Sys2Proof.Machine
end

