-- ==== Sys2Proof/Machine/ManagementRequests.lean ====
section
/-! DEFINITION. The requests owned by the management unit (chapter 9). -/

namespace Sys2Proof.Machine

/-- R164: the holder, none while the lock is FREE. -/
def holder (s : State) : Option Byte := s.lock.map Lease.holder

/-- R164: lease length and lease remaining; both 0 while the lock is FREE. -/
def leaseLength (s : State) : Word16 := (s.lock.map Lease.length).getD 0
def leaseRemaining (s : State) : Word16 := (s.lock.map Lease.remaining).getD 0

/-- R169: the manager list in four places, FFh in each unused one. -/
def managerBytes (l : List Byte) : List Byte :=
  (l ++ List.replicate (Config.managerNodes - l.length) 0xFF#8).take Config.managerNodes

/-- R169: the data of IDENTIFY. -/
def identityBytes (s : State) : List Byte :=
  bytes16 Config.partCode ++
    [Config.revision, s.ownAddress, modeByte s.mode, verdictByte s.defaultAction, flagByte s.faultLatch.isSome,
      locationKind s.faultLatch, locationIndex s.faultLatch, resetCauseByte s.resetCause, nodeByte (holder s)] ++
    bytes16 (leaseLength s) ++ bytes16 (leaseRemaining s) ++ [countByte s.managers.length] ++
    managerBytes s.managers ++ bytes32 s.tick ++ bytes32 s.overruns

/-- R169: IDENTIFY. -/
def performIdentify (s : State) : Reply := ⟨s, .ok, identityBytes s⟩

/-- R165: the lease length that two parameter bytes give: 0 means 5000, else 10 to 60000. -/
def parseLease (hi lo : Byte) : Option Word16 :=
  let n := word16 hi lo
  if n = 0 then some Config.defaultLease
  else if 10 ≤ n.toNat ∧ n.toNat ≤ 60000 then some n
  else none

/-- R165: the lock is HELD by `source` with this lease length. -/
def grant (source : Byte) (length : Word16) (s : State) : Reply :=
  ⟨{ s with lock := some ⟨source, length, length⟩ }, .ok, source :: bytes16 length⟩

/-- R165 steps 2 to 4: a CLAIM with this length, or with none given. -/
def claimLock (source : Byte) (length : Option Word16) (s : State) : Reply :=
  match s.lock with
  | none => grant source (length.getD Config.defaultLease) s
  | some l =>
    if l.holder = source then
      match length with
      | some n => grant source n s
      | none => ⟨s, .ok, source :: bytes16 l.length⟩
    else ⟨s, .busy, [l.holder]⟩

/-- R165: CLAIM. -/
def performClaim (source : Byte) (params : List Byte) (s : State) : Reply :=
  match params with
  | [] => claimLock source none s
  | [hi, lo] =>
    match parseLease hi lo with
    | none => refuse .outOfRange s
    | some n => claimLock source (some n) s
  | _ => refuse .badRequest s

/-- R173: the staging buffer is OPEN. -/
def stagingOpen (s : State) : Bool :=
  match s.staging with
  | .opened _ => true
  | .pending _ _ => false
  | .empty => false

/-- R164, R166: the lock becomes FREE and an OPEN buffer is discarded. -/
def freeLock (s : State) : State := discardOpen { s with lock := none }

/-- R166: RELEASE. -/
def performRelease (s : State) : Reply := ⟨freeLock s, .ok, [flagByte (stagingOpen s)]⟩

/-- R157: SET_ADDRESS. -/
def performSetAddress (params : List Byte) (s : State) : Reply :=
  match params with
  | [a] =>
    if a = Config.broadcast then refuse .outOfRange s
    else ⟨{ s with ownAddress := a }, .ok, [s.ownAddress]⟩
  | _ => refuse .badRequest s

/-- R160 step 2: no node is given twice. -/
def distinct : List Byte → Bool
  | [] => true
  | a :: l => !l.contains a && distinct l

/-- R160: SET_MANAGERS. -/
def performSetManagers (source : Byte) (params : List Byte) (s : State) : Reply :=
  if params.contains Config.broadcast then refuse .outOfRange s
  else if !distinct params then refuse .badRequest s
  else if !params.isEmpty && !params.contains source then refuse .busy s
  else ⟨{ s with managers := params }, .ok, [countByte params.length]⟩

/-- R151: RESTART at the report unit; the frame waiting at an arbiter is removed (R12, R14). -/
def restartReport (s : State) : State :=
  let t := closeReport (startPhase s.collector) 0 s
  let t := { t with report := { t.report with staleAcks := 0, foreignAcks := 0 } }
  match s.report.phase with
  | .queued => settleCollectorPort t
  | .awaitAck => t
  | .off => t
  | .idle => t
  | .gap => t

/-- R171 step 2: the restart is carried out across the blocks. -/
def restartBlocks (s : State) : State :=
  let s := (endContexts (fun _ => true) .restart (discardStaging s)).state
  let s := { s.modifySlots clearFlags with events := [], lostCount := 0 }
  (clearPortCounters .b (clearPortCounters .a (restartReport s))).clearHits

/-- R171 step 3: the management unit's own items. With the lock FREE, a request that needs it meets check 7 before the
outcome that R87 or R138 gives after a RESTART (DESIGN CHOICE, notes/assumptions/17.md). -/
def restartManagement (s : State) : State :=
  { s with lock := none, cache := [], overruns := 0, resetCause := .restart }

/-- R171 steps 2 and 3, after the response has been placed. -/
def restartPart (s : State) : State := restartManagement (restartBlocks s)

end Sys2Proof.Machine
end

