-- ==== Sys2Proof/WellFormed.lean ====
section
/-! DEFINITION. Which commands can arise at all: a request comes in a good frame (R1, R5, R153), a frame holds at least
its first byte (R4), and only an item that the command's rule reads can be found damaged (R34). Indices are bounded by
their types. -/

namespace Sys2Proof

/-- R1, R5 check 6: a good frame's source is 0 to 254; R153: 0 to 46 parameter bytes follow the tag. -/
def Call.wf (c : Call) : Bool := c.source != Config.broadcast && decide (c.params.length ≤ 46)

/-- R34: READ_MATCH reads match entries only. -/
def Location.isMatch : Location → Bool
  | .matchEntry _ => true
  | _ => false

/-- R34: READ_SLOT and READ_TRANSITION read installed images only. -/
def Location.isProgram : Location → Bool
  | .program _ => true
  | _ => false

/-- R34: READ_CONTEXT, FIND_CONTEXTS and END_CONTEXT read contexts only. -/
def Location.isContext : Location → Bool
  | .context _ => true
  | _ => false

/-- R34: an expiry reads its own context and an installed image. -/
def Location.isExpiryOf (i : ContextIndex) : Location → Bool
  | .program _ => true
  | .context j => i == j
  | .matchEntry _ => false

/-- A command that can arise. -/
def Instr.wf : Instr → Bool
  | .powerOn => true
  | .resetLineAsserted => true
  | .resetLineReleased => true
  | .linkUp _ => true
  | .linkDown _ => true
  | .endOfReception _ bytes _ => !bytes.isEmpty
  | .endOfTransmission _ => true
  | .tick _ => true
  | .expiry i d => d.all (Location.isExpiryOf i)
  | .leaseRunOut => true
  | .retryTimerRunOut => true
  | .gapTimerRunOut => true
  | .assembly => true
  | .drainCompletion => true
  | .identify c => c.wf
  | .claim c => c.wf
  | .release c => c.wf
  | .setAddress c => c.wf
  | .setManagers c => c.wf
  | .restart c => c.wf
  | .setMode c => c.wf
  | .clearFault c => c.wf
  | .writeMatch c => c.wf
  | .readMatch c d => c.wf && d.all Location.isMatch
  | .stageBegin c => c.wf
  | .stageHeader c => c.wf
  | .stageState c => c.wf
  | .stageTransition c => c.wf
  | .stageCommit c => c.wf
  | .stageAbort c => c.wf
  | .eraseSlot c => c.wf
  | .readSlot c d => c.wf && d.all Location.isProgram
  | .readTransition c d => c.wf && d.all Location.isProgram
  | .readContext c d => c.wf && d.all Location.isContext
  | .findContexts c d => c.wf && d.all Location.isContext
  | .endContext c d => c.wf && d.all Location.isContext
  | .readPortCounters c => c.wf
  | .readSlotCounters c => c.wf
  | .clearCounters c => c.wf
  | .pollEvents c => c.wf
  | .readAlarms c => c.wf
  | .clearAlarms c => c.wf
  | .setCollector c => c.wf
  | .reportAck c => c.wf
  | .readReportStatus c => c.wf
  | .startOfReception _ => true

end Sys2Proof
end

