-- ==== Sys2Proof/Machine/Management.lean ====
section
/-! DEFINITION. The request happening (sections 9.1, 9.3, 9.5, 9.6): the request codes with their authority and
parameter lengths, the nine common checks, the response slots and the reply cache. -/

namespace Sys2Proof.Machine

/-- R155: the requests. -/
inductive RequestCode where
  | identify | claim | release | setAddress | setManagers | restart
  | setMode | clearFault | writeMatch | readMatch
  | stageBegin | stageHeader | stageState | stageTransition | stageCommit | stageAbort | eraseSlot
  | readSlot | readTransition
  | readContext | findContexts | endContext
  | readPortCounters | readSlotCounters | clearCounters
  | pollEvents | readAlarms | clearAlarms
  | setCollector | reportAck | readReportStatus
  deriving DecidableEq, Repr

/-- R155: the request codes. -/
def codeByte : RequestCode → Byte
  | .identify => 0x01#8
  | .claim => 0x02#8
  | .release => 0x03#8
  | .setAddress => 0x04#8
  | .setManagers => 0x05#8
  | .restart => 0x06#8
  | .setMode => 0x10#8
  | .clearFault => 0x11#8
  | .writeMatch => 0x12#8
  | .readMatch => 0x13#8
  | .stageBegin => 0x20#8
  | .stageHeader => 0x21#8
  | .stageState => 0x22#8
  | .stageTransition => 0x23#8
  | .stageCommit => 0x24#8
  | .stageAbort => 0x25#8
  | .eraseSlot => 0x26#8
  | .readSlot => 0x27#8
  | .readTransition => 0x28#8
  | .readContext => 0x30#8
  | .findContexts => 0x31#8
  | .endContext => 0x32#8
  | .readPortCounters => 0x40#8
  | .readSlotCounters => 0x41#8
  | .clearCounters => 0x42#8
  | .pollEvents => 0x50#8
  | .readAlarms => 0x51#8
  | .clearAlarms => 0x52#8
  | .setCollector => 0x60#8
  | .reportAck => 0x61#8
  | .readReportStatus => 0x62#8

/-- Every request, in the order of R155's table. -/
def requestCodes : List RequestCode :=
  [.identify, .claim, .release, .setAddress, .setManagers, .restart, .setMode, .clearFault, .writeMatch, .readMatch,
    .stageBegin, .stageHeader, .stageState, .stageTransition, .stageCommit, .stageAbort, .eraseSlot, .readSlot,
    .readTransition, .readContext, .findContexts, .endContext, .readPortCounters, .readSlotCounters, .clearCounters,
    .pollEvents, .readAlarms, .clearAlarms, .setCollector, .reportAck, .readReportStatus]

/-- R155: the request of a code byte; none when the code is unknown. -/
def codeOf (b : Byte) : Option RequestCode := requestCodes.find? (fun c => codeByte c == b)

/-- R155: the authority that a request needs. IDENTIFY and REPORT_ACK leave the checks before any authority is asked
for (R158 checks 4 and 5). -/
inductive Authority where
  | none | managerList | lock
  deriving DecidableEq, Repr

/-- R155, R158 check 7: RELEASE needs its requester to be the holder, as the requests marked "lock" do. -/
def authority : RequestCode → Authority
  | .identify | .reportAck => .none
  | .claim | .readMatch | .readSlot | .readTransition | .readContext | .findContexts | .readPortCounters
  | .readSlotCounters | .pollEvents | .readAlarms | .readReportStatus => .managerList
  | .release | .setAddress | .setManagers | .restart | .setMode | .clearFault | .writeMatch | .stageBegin
  | .stageHeader | .stageState | .stageTransition | .stageCommit | .stageAbort | .eraseSlot | .endContext
  | .clearCounters | .clearAlarms | .setCollector => .lock

/-- R158: the parameter lengths that check 8 accepts. -/
def acceptsLength (c : RequestCode) (n : Nat) : Bool :=
  match c with
  | .identify | .reportAck => true
  | .claim => n == 0 || n == 2
  | .setManagers => decide (n ≤ 4)
  | .release | .restart | .clearFault | .stageBegin | .stageAbort | .pollEvents | .readAlarms
  | .readReportStatus => n == 0
  | .setAddress | .readMatch | .eraseSlot | .readContext | .readPortCounters | .readSlotCounters | .clearCounters
  | .clearAlarms => n == 1
  | .setMode | .stageCommit | .readSlot | .readTransition | .findContexts => n == 2
  | .stageTransition => n == 1 || n == 14
  | .endContext => n == 1 || n == 5
  | .stageHeader => n == 7
  | .stageState => n == 8
  | .setCollector => n == 9
  | .writeMatch => n == 11

/-- R153: what the management unit records of a request, with its payload. -/
structure Request where
  port : Port
  source : Byte
  sequence : BitVec 4
  payload : List Byte
  deriving DecidableEq, Repr

/-! ### Responses and the reply cache (R161, R162) -/

/-- R21: the request code and tag echoed, 00h for each that the payload lacks; then status and data. -/
def responsePayload (r : Request) (st : Status) (data : List Byte) : List Byte :=
  [(r.payload[0]?).getD 0x00#8, (r.payload[1]?).getD 0x00#8, statusByte st] ++ data

/-- R3, R161: the response with this payload, whose source is the own address `own`. -/
def makeResponse (own : Byte) (r : Request) (payload : List Byte) : Response :=
  { frame := buildFrame r.source own Config.kindResponse r.sequence payload
    port := r.port, requester := r.source, sequence := r.sequence, code := r.payload[0]?, tag := r.payload[1]? }

/-- R13, R161: a response is placed in a free slot bound to its port, whose arbiter may select it. -/
def placeResponse (x : Response) (s : State) : State := select x.port { s with responses := s.responses ++ [x] }

/-- R162: the requester's entry becomes the most recent; the least recent goes when a fifth would be held. -/
def cacheEntry (e : CacheEntry) (l : List CacheEntry) : List CacheEntry :=
  (e :: l.filter (fun x => x.source != e.source)).take Config.cacheEntries

/-- R162: an executed request whose payload has a tag updates the cache. -/
def updateCache (r : Request) (payload : List Byte) (s : State) : State :=
  match r.payload with
  | code :: tag :: _ => { s with cache := cacheEntry ⟨r.source, r.sequence, code, tag, payload⟩ s.cache }
  | _ => s

/-- R153, R161, R162: the response to an executed request is placed, with the own address `own` under which the request
was taken, and the cache is updated. -/
def respond (own : Byte) (r : Request) (st : Status) (data : List Byte) (s : State) : State :=
  let payload := responsePayload r st data
  updateCache r payload (placeResponse (makeResponse own r payload) s)

/-- R158 check 2: the entry that a repeat hits. -/
def cacheHit (r : Request) (s : State) : Option CacheEntry :=
  match r.payload with
  | code :: tag :: _ =>
    s.cache.find? (fun e => e.source == r.source && e.sequence == r.sequence && e.code == code && e.tag == tag)
  | _ => none

/-- R163: an occupied slot holds a response to the same requester, sequence, code and tag. -/
def waitsAlready (e : CacheEntry) (s : State) : Bool :=
  s.responses.any (fun x =>
    x.requester == e.source && x.sequence == e.sequence && x.code == some e.code && x.tag == some e.tag)

/-- R163: a repeat is answered without being carried out. -/
def answerRepeat (e : CacheEntry) (r : Request) (s : State) : State :=
  if waitsAlready e s then s else placeResponse (makeResponse s.ownAddress r e.payload) s

/-! ### Carrying out (R153) -/

/-- The request's own rule. IDENTIFY and REPORT_ACK have left the checks before (R158 checks 4 and 5), and RESTART is
carried out after its OK response (R171): of these three only the answer, if there is one, is given here. -/
def perform (c : RequestCode) (source : Byte) (params : List Byte) (d : Damage) (s : State) : Reply :=
  match c with
  | .identify => performIdentify s
  | .claim => performClaim source params s
  | .release => performRelease s
  | .setAddress => performSetAddress params s
  | .setManagers => performSetManagers source params s
  | .restart => refuse .ok s
  | .setMode => performSetMode params s
  | .clearFault => performClearFault s
  | .writeMatch => performWriteMatch params s
  | .readMatch => performReadMatch params d s
  | .stageBegin => performStageBegin s
  | .stageHeader => performStageHeader params s
  | .stageState => performStageState params s
  | .stageTransition => performStageTransition params s
  | .stageCommit => performStageCommit params s
  | .stageAbort => performStageAbort s
  | .eraseSlot => performEraseSlot params s
  | .readSlot => performReadSlot params d s
  | .readTransition => performReadTransition params d s
  | .readContext => performReadContext params d s
  | .findContexts => performFindContexts params d s
  | .endContext => performEndContext params d s
  | .readPortCounters => performReadPortCounters params s
  | .readSlotCounters => performReadSlotCounters params s
  | .clearCounters => performClearCounters params s
  | .pollEvents => performPollEvents s
  | .readAlarms => performReadAlarms s
  | .clearAlarms => performClearAlarms params s
  | .setCollector => performSetCollector params s
  | .reportAck => refuse .ok s
  | .readReportStatus => performReadReportStatus s

/-- R158 check 9: the holder's lease is renewed. -/
def renew (source : Byte) (s : State) : State :=
  match s.lock with
  | some l => if l.holder = source then { s with lock := some { l with remaining := l.length } } else s
  | none => s

/-- R153, R171: a request that has passed the checks is carried out; its response comes after its effects, but for
RESTART. At an IDLE arrival port the RESTART's response is selected at its placement (R13), before step 2 of R171: its
slot is free again, and its count as a local frame sent is cleared with the port's counters (DESIGN CHOICE,
notes/assumptions/19.md). -/
def carryOut (c : RequestCode) (r : Request) (params : List Byte) (d : Damage) (s : State) : State :=
  match c with
  | .restart => restartPart (respond s.ownAddress r .ok [] s)
  | c =>
    let y := perform c r.source params d s
    respond s.ownAddress r y.status y.data y.state

/-- R158 check 6: the requester passes the manager list. -/
def managerAdmits (source : Byte) (s : State) : Bool := s.managers.isEmpty || s.managers.contains source

/-- R158 check 7: the requester passes the lock check. -/
def lockAdmits (c : RequestCode) (source : Byte) (s : State) : Bool :=
  match authority c with
  | .lock => holder s == some source
  | .none => true
  | .managerList => true

/-- R158 checks 6 to 9. Check 7 judges a request that needs the lock by the lock as it stands. So a CLEAR_ALARMS or an
END_CONTEXT taken after a RESTART with no CLAIM between is answered NOT_HOLDER with 255, where R138's table shows 00h
and R87 the context free (DESIGN CHOICE, notes/assumptions/17.md). -/
def checkAuthority (c : RequestCode) (r : Request) (params : List Byte) (d : Damage) (s : State) : State :=
  if !managerAdmits r.source s then respond s.ownAddress r .denied [] s
  else if !lockAdmits c r.source s then respond s.ownAddress r .notHolder [nodeByte (holder s)] s
  else if !acceptsLength c params.length then respond s.ownAddress r .badRequest [] s
  else carryOut c r params d (renew r.source s)

/-- R158 checks 4 and 5, then the rest. -/
def checkKnown (c : RequestCode) (r : Request) (params : List Byte) (d : Damage) (s : State) : State :=
  match c with
  | .reportAck => takeAck r.source params s
  | .identify => respond s.ownAddress r .ok (identityBytes s) s
  | c => checkAuthority c r params d s

/-- R158 check 3, then the rest. -/
def checkForm (r : Request) (d : Damage) (s : State) : State :=
  match r.payload with
  | code :: _ :: params =>
    match codeOf code with
    | some c => checkKnown c r params d s
    | none => respond s.ownAddress r .badRequest [] s
  | _ => respond s.ownAddress r .badRequest [] s

/-- R158 check 2, then the rest. -/
def checkRepeat (r : Request) (d : Damage) (s : State) : State :=
  match cacheHit r s with
  | some e => answerRepeat e r s
  | none => checkForm r d s

/-- R153, R158: the request happening at the management unit. -/
def takeRequest (r : Request) (d : Damage) (s : State) : State :=
  if Config.responseSlots ≤ s.responses.length then { s with overruns := satInc s.overruns }
  else checkRepeat r d s

/-! ### Requests as commands -/

/-- R153: the request that a call of this code is. -/
def callRequest (c : RequestCode) (x : Call) : Request :=
  { port := x.port, source := x.source, sequence := x.sequence, payload := codeByte c :: x.tag :: x.params }

/-- R4, R5, R6: a request arrives only in a good frame, at a port that is UP, whose source is a node other than the own
address, and whose payload holds at most 46 parameter bytes. -/
def canArrive (x : Call) (s : State) : Bool := x.wf && (s.port x.port).up && x.source != s.ownAddress

/-- A request command: the request happening of R153, where such a request can arrive at all; else nothing happens. -/
def requestCommand (c : RequestCode) (x : Call) (d : Damage) (s : State) : State :=
  if canArrive x s then takeRequest (callRequest c x) d s else s

end Sys2Proof.Machine
end

