-- ==== Sys2Proof/Machine/Ports.lean ====
section
/-! DEFINITION. The happenings at a port (chapter 1): link changes, reception and transmission. -/

namespace Sys2Proof.Machine

/-- R11: the port after it goes UP. -/
def raiseLink (q : PortState) : PortState :=
  { q with up := true, receiving := false, queue := [], sending := none, consecutive := 0 }

/-- R8, R11: LINK_UP. No effect at a port that is UP, nor while the RESET line is asserted. -/
def execLinkUp (p : Port) (s : State) : Host.Outcome State Fault Refusal :=
  .next (if s.resetHeld || (s.port p).up then s else s.modifyPort p raiseLink)

/-- R9 steps 1 to 3 and 6: the port after it goes DOWN. -/
def dropLink (q : PortState) : PortState :=
  { q with
    up := false, receiving := false, queue := [], sending := none, consecutive := 0
    counters := raisePort .linkDownFlushes q.queue.length q.counters }

/-- R9 step 4: every response slot bound to the port is freed; the reply cache stays. -/
def freeResponses (p : Port) (s : State) : State :=
  { s with responses := s.responses.filter (fun r => r.port != p) }

/-- R9 step 5, R145: a report frame that waits at the port is withdrawn and the report abandoned. -/
def withdrawReport (p : Port) (s : State) : State :=
  match reportWaiting p s with
  | some _ => abandonReport s
  | none => s

/-- R9: a port that is UP goes DOWN. -/
def takeLinkDown (p : Port) (s : State) : State :=
  withdrawReport p (freeResponses p (s.modifyPort p dropLink))

/-- R8, R9: LINK_DOWN. No effect at a port that is DOWN. -/
def execLinkDown (p : Port) (s : State) : Host.Outcome State Fault Refusal :=
  .next (if (s.port p).up then takeLinkDown p s else s)

/-- R4: START_OF_RECEPTION: a port that is UP holds a frame in reception. A port that is DOWN does not receive. -/
def execStartOfReception (p : Port) (s : State) : Host.Outcome State Fault Refusal :=
  .next (if (s.port p).up then s.modifyPort p (fun q => { q with receiving := true }) else s)

/-- R6, R153: the request that a good frame of kind 60 addressed to the part carries. -/
def frameRequest (p : Port) (f : Frame) : Request :=
  { port := p, source := f.source, sequence := f.sequence, payload := f.payload }

/-- R6: a frame taken locally. -/
def takeLocally (p : Port) (f : Frame) (d : Damage) (s : State) : State :=
  let s := s.count p .takenLocally 1
  if f.kind = Config.kindRequest then takeRequest (frameRequest p f) d s else s

/-- R6, R7: a good frame is taken locally or handled as a transit frame. -/
def takeGood (p : Port) (f : Frame) (d : Damage) (s : State) : State :=
  let s := s.count p .goodFrames 1
  if f.dest = s.ownAddress then takeLocally p f d s else handleTransit p f d s

/-- R5: a received frame is checked, counted and discarded or taken. -/
def takeReceived (p : Port) (bytes : List Byte) (d : Damage) (s : State) : State :=
  match ingress bytes with
  | .malformed => s.count p .malformed 1
  | .checkError => s.count p .checkErrors 1
  | .good f => takeGood p f d s

/-- R4 to R7: END_OF_RECEPTION. A port with no frame in reception, or DOWN, has none to end (notes/assumptions/5.md). -/
def execEndOfReception (p : Port) (bytes : List Byte) (d : Damage) (s : State) :
    Host.Outcome State Fault Refusal :=
  .next
    (if (s.port p).up && (s.port p).receiving then
      takeReceived p bytes d (s.modifyPort p (fun q => { q with receiving := false }))
    else s)

/-- R13, R15: END_OF_TRANSMISSION: the transmitter becomes IDLE and the arbiter at once makes the next selection. An
IDLE transmitter has nothing to end. -/
def execEndOfTransmission (p : Port) (s : State) : Host.Outcome State Fault Refusal :=
  .next
    (if (s.port p).sending.isSome then select p (s.modifyPort p (fun q => { q with sending := none })) else s)

end Sys2Proof.Machine
end

