-- ==== Sys2Proof/Machine/Requests.lean ====
section
/-! DEFINITION. The meanings of the 31 request commands: each is the request happening of R153 with the row's own
request code (R155). What the request does once it has passed the common checks is its own perform definition (RESTART,
IDENTIFY and REPORT_ACK: restartPart, identityBytes and takeAck). -/

namespace Sys2Proof.Machine

/-- R169: IDENTIFY. -/
def execIdentify (c : Call) (s : State) : Host.Outcome State Fault Refusal :=
  .next (requestCommand .identify c none s)

/-- R165: CLAIM. -/
def execClaim (c : Call) (s : State) : Host.Outcome State Fault Refusal :=
  .next (requestCommand .claim c none s)

/-- R166: RELEASE. -/
def execRelease (c : Call) (s : State) : Host.Outcome State Fault Refusal :=
  .next (requestCommand .release c none s)

/-- R157: SET_ADDRESS. -/
def execSetAddress (c : Call) (s : State) : Host.Outcome State Fault Refusal :=
  .next (requestCommand .setAddress c none s)

/-- R160: SET_MANAGERS. -/
def execSetManagers (c : Call) (s : State) : Host.Outcome State Fault Refusal :=
  .next (requestCommand .setManagers c none s)

/-- R171: RESTART. -/
def execRestart (c : Call) (s : State) : Host.Outcome State Fault Refusal :=
  .next (requestCommand .restart c none s)

/-- R39: SET_MODE. -/
def execSetMode (c : Call) (s : State) : Host.Outcome State Fault Refusal :=
  .next (requestCommand .setMode c none s)

/-- R40: CLEAR_FAULT. -/
def execClearFault (c : Call) (s : State) : Host.Outcome State Fault Refusal :=
  .next (requestCommand .clearFault c none s)

/-- R41: WRITE_MATCH. -/
def execWriteMatch (c : Call) (s : State) : Host.Outcome State Fault Refusal :=
  .next (requestCommand .writeMatch c none s)

/-- R42: READ_MATCH. -/
def execReadMatch (c : Call) (d : Damage) (s : State) : Host.Outcome State Fault Refusal :=
  .next (requestCommand .readMatch c d s)

/-- R174: STAGE_BEGIN. -/
def execStageBegin (c : Call) (s : State) : Host.Outcome State Fault Refusal :=
  .next (requestCommand .stageBegin c none s)

/-- R175: STAGE_HEADER. -/
def execStageHeader (c : Call) (s : State) : Host.Outcome State Fault Refusal :=
  .next (requestCommand .stageHeader c none s)

/-- R175: STAGE_STATE. -/
def execStageState (c : Call) (s : State) : Host.Outcome State Fault Refusal :=
  .next (requestCommand .stageState c none s)

/-- R175: STAGE_TRANSITION. -/
def execStageTransition (c : Call) (s : State) : Host.Outcome State Fault Refusal :=
  .next (requestCommand .stageTransition c none s)

/-- R176: STAGE_COMMIT. -/
def execStageCommit (c : Call) (s : State) : Host.Outcome State Fault Refusal :=
  .next (requestCommand .stageCommit c none s)

/-- R179: STAGE_ABORT. -/
def execStageAbort (c : Call) (s : State) : Host.Outcome State Fault Refusal :=
  .next (requestCommand .stageAbort c none s)

/-- R180: ERASE_SLOT. -/
def execEraseSlot (c : Call) (s : State) : Host.Outcome State Fault Refusal :=
  .next (requestCommand .eraseSlot c none s)

/-- R63: READ_SLOT. -/
def execReadSlot (c : Call) (d : Damage) (s : State) : Host.Outcome State Fault Refusal :=
  .next (requestCommand .readSlot c d s)

/-- R64: READ_TRANSITION. -/
def execReadTransition (c : Call) (d : Damage) (s : State) : Host.Outcome State Fault Refusal :=
  .next (requestCommand .readTransition c d s)

/-- R84: READ_CONTEXT. -/
def execReadContext (c : Call) (d : Damage) (s : State) : Host.Outcome State Fault Refusal :=
  .next (requestCommand .readContext c d s)

/-- R85: FIND_CONTEXTS. -/
def execFindContexts (c : Call) (d : Damage) (s : State) : Host.Outcome State Fault Refusal :=
  .next (requestCommand .findContexts c d s)

/-- R86: END_CONTEXT. -/
def execEndContext (c : Call) (d : Damage) (s : State) : Host.Outcome State Fault Refusal :=
  .next (requestCommand .endContext c d s)

/-- R19: READ_PORT_COUNTERS. -/
def execReadPortCounters (c : Call) (s : State) : Host.Outcome State Fault Refusal :=
  .next (requestCommand .readPortCounters c none s)

/-- R65: READ_SLOT_COUNTERS. -/
def execReadSlotCounters (c : Call) (s : State) : Host.Outcome State Fault Refusal :=
  .next (requestCommand .readSlotCounters c none s)

/-- R20: CLEAR_COUNTERS. -/
def execClearCounters (c : Call) (s : State) : Host.Outcome State Fault Refusal :=
  .next (requestCommand .clearCounters c none s)

/-- R134: POLL_EVENTS. -/
def execPollEvents (c : Call) (s : State) : Host.Outcome State Fault Refusal :=
  .next (requestCommand .pollEvents c none s)

/-- R136: READ_ALARMS. -/
def execReadAlarms (c : Call) (s : State) : Host.Outcome State Fault Refusal :=
  .next (requestCommand .readAlarms c none s)

/-- R137: CLEAR_ALARMS. -/
def execClearAlarms (c : Call) (s : State) : Host.Outcome State Fault Refusal :=
  .next (requestCommand .clearAlarms c none s)

/-- R141: SET_COLLECTOR. -/
def execSetCollector (c : Call) (s : State) : Host.Outcome State Fault Refusal :=
  .next (requestCommand .setCollector c none s)

/-- R148: REPORT_ACK. -/
def execReportAck (c : Call) (s : State) : Host.Outcome State Fault Refusal :=
  .next (requestCommand .reportAck c none s)

/-- R152: READ_REPORT_STATUS. -/
def execReadReportStatus (c : Call) (s : State) : Host.Outcome State Fault Refusal :=
  .next (requestCommand .readReportStatus c none s)

end Sys2Proof.Machine
end

