-- ==== Sys2Proof/Machine/Resets.lean ====
section
/-! DEFINITION. Power-on and the RESET line (R168, R170). -/

namespace Sys2Proof.Machine

/-- Every item at its power-on value, with this reset cause and this level of the RESET line. The line is an input of
its own, and the waiting commands are not the part's: neither is an item with a power-on value. -/
def resetState (held : Bool) (cause : ResetCause) (s : State) : State :=
  { State.reset with pending := s.pending, resetHeld := held, resetCause := cause }

/-- R170: POWER_ON; the level of the RESET line stays (DESIGN CHOICE, notes/assumptions/4.md). -/
def execPowerOn (s : State) : Host.Outcome State Fault Refusal := .next (resetState s.resetHeld .powerOn s)

/-- R8, R67, R112, R139, R170: RESET_LINE_ASSERTED: the part is held in reset, with both ports DOWN, the tick counter at
0, no context and no event; the reset cause is recorded at the release (R168). -/
def execResetLineAsserted (s : State) : Host.Outcome State Fault Refusal := .next (resetState true s.resetCause s)

/-- R168, R170: RESET_LINE_RELEASED: the part starts as after power-on, with cause RESET_LINE. A line that is not
asserted cannot be released: nothing happens. -/
def execResetLineReleased (s : State) : Host.Outcome State Fault Refusal :=
  .next (if s.resetHeld then resetState false .resetLine s else s)

end Sys2Proof.Machine
end

