-- ==== Sys2Proof/Machine/Timers.lean ====
section
/-! DEFINITION. Ticks, expiries and the running out of the lease, the retry timer and the gap timer (chapter 6; R113,
R146, R147, R149, R164), with the report unit's assembly (R143) and the completion of a drain (R178). -/

namespace Sys2Proof.Machine

/-! ### The management unit's tick (R164) -/

/-- R164: the lease runs out: the lock becomes FREE, an OPEN buffer is discarded, LOCK_EXPIRED is offered. -/
def leaseRunsOut (l : Lease) (s : State) : State := offer (lockExpiredEvent l.holder) (freeLock s)

/-- R164: the lease remaining falls by 1; at 0 it has run out. -/
def lowerLease (s : State) : State :=
  match s.lock with
  | none => s
  | some l =>
    if l.remaining.toNat ≤ 1 then leaseRunsOut l s
    else { s with lock := some { l with remaining := l.remaining - 1 } }

/-- R113: the management unit takes the tick that it has still to take. -/
def managementTick (s : State) : State :=
  if s.managementTickOwed then lowerLease { s with managementTickOwed := false } else s

/-! ### The report unit's tick (R146, R149) -/

/-- R146: the report is retransmitted. -/
def retransmit (s : State) : State :=
  offerReport { s with report := { s.report with retryCount := s.report.retryCount + 1, retryTimer := 0 } }

/-- R146, R147: the retry timer has run out: retransmission below the retry limit, else the report is given up. -/
def retryRunsOut (s : State) : State :=
  if s.report.retryCount < s.collector.retryLimit then retransmit s else endReport (giveUpPinned s)

/-- R149: the gap timer has run out. -/
def gapRunsOut (s : State) : State := closeReport .idle 0 s

/-- R146, R149: the running timer falls by 1; at 0 it has run out. -/
def lowerTimer (s : State) : State :=
  match s.report.phase with
  | .awaitAck =>
    if s.report.retryTimer.toNat ≤ 1 then retryRunsOut s
    else { s with report := { s.report with retryTimer := s.report.retryTimer - 1 } }
  | .gap =>
    if s.report.gapTimer.toNat ≤ 1 then gapRunsOut s
    else { s with report := { s.report with gapTimer := s.report.gapTimer - 1 } }
  | .off => s
  | .idle => s
  | .queued => s

/-- R113: the report unit takes the tick that it has still to take. -/
def reportTick (s : State) : State :=
  if s.reportTickOwed then lowerTimer { s with reportTickOwed := false } else s

/-! ### The time base (R112) -/

/-- R116: the expiries that are still due are taken while the tick count equals their deadlines. -/
def takeDue (s : State) : State := contextIndices.foldl (fun s i => expireIfDue i none s) s

/-- R113, R116: before the next tick of the time base, each block takes what the present tick still asks of it, in an
order of the model's own (DESIGN CHOICE, notes/assumptions/2.md); a sender that wants another order commands it. -/
def settleTick (s : State) : State := reportTick (managementTick (takeDue s))

/-- R112: the counter rises by 1, from FFFFFFFFh to 0, and each block that counts time has the new tick to take. -/
def countTick (s : State) : State :=
  { s with tick := s.tick + 1, managementTickOwed := true, reportTickOwed := true }

/-- R112, R113: TICK. While the RESET line is asserted no tick is produced. -/
def execTick (taker : TickTaker) (s : State) : Host.Outcome State Fault Refusal :=
  .next
    (match taker with
      | .timeBase => if s.resetHeld then s else countTick (settleTick s)
      | .managementUnit => managementTick s
      | .reportUnit => reportTick s)

/-- R116 to R120: EXPIRY. -/
def execExpiry (i : ContextIndex) (d : Damage) (s : State) : Host.Outcome State Fault Refusal :=
  .next (expireIfDue i d s)

/-- R164: the present tick, not yet taken by the management unit, takes the lease remaining to 0. -/
def leaseDue (s : State) : Bool :=
  s.managementTickOwed && s.lock.any (fun l => decide (l.remaining.toNat ≤ 1))

/-- R164: LEASE_RUN_OUT: the management unit takes the tick at which the lease runs out; else nothing happens. -/
def execLeaseRunOut (s : State) : Host.Outcome State Fault Refusal :=
  .next (if leaseDue s then managementTick s else s)

/-- R146: the present tick, not yet taken by the report unit, takes the retry timer to 0. -/
def retryDue (s : State) : Bool :=
  s.reportTickOwed && s.report.phase == .awaitAck && decide (s.report.retryTimer.toNat ≤ 1)

/-- R146, R147: RETRY_TIMER_RUN_OUT. -/
def execRetryTimerRunOut (s : State) : Host.Outcome State Fault Refusal :=
  .next (if retryDue s then reportTick s else s)

/-- R149: the present tick, not yet taken by the report unit, takes the gap timer to 0. -/
def gapDue (s : State) : Bool :=
  s.reportTickOwed && s.report.phase == .gap && decide (s.report.gapTimer.toNat ≤ 1)

/-- R149: GAP_TIMER_RUN_OUT. -/
def execGapTimerRunOut (s : State) : Host.Outcome State Fault Refusal :=
  .next (if gapDue s then reportTick s else s)

/-! ### Assembly and drain completion -/

/-- R143: the condition for assembly. -/
def assemblyReady (s : State) : Bool :=
  s.report.phase == .idle && s.events.any (fun e => !e.pinned) &&
    s.collector.target.any (fun t => (s.port t.2).up)

/-- R143 steps 1 to 5: the report is built. -/
def buildReport (s : State) : State :=
  let chosen := selected s.events
  { s with
    events := pinEvents chosen s.events
    lostCount := 0
    report := { s.report with
      serial := s.report.serial + 1, captured := s.lostCount, retryCount := 0
      records := chosen.map (fun e => (e.serial, e.body)) } }

/-- R143: ASSEMBLY. If the condition does not hold when the assembly is taken, nothing is done. At an IDLE transmitter
in NOACK mode the report is delivered within it (notes/assumptions/18.md). An event admitted later waits for the next
assembly (DEDUCED, notes/assumptions/20.md). -/
def execAssembly (s : State) : Host.Outcome State Fault Refusal :=
  .next (if assemblyReady s then offerReport (buildReport s) else s)

/-- R178: the target slot of a PENDING buffer, when it is DRAINING with no context left. -/
def drainDone (s : State) : Option SlotIndex :=
  match s.staging with
  | .pending _ k =>
    match (s.slot k).status with
    | .draining _ => if (s.slot k).contextCount = 0 then some k else none
    | .active _ => none
    | .empty => none
  | .opened _ => none
  | .empty => none

/-- R178: DRAIN_COMPLETION, the same completion that the end of the last context makes at step 5 of R79. -/
def execDrainCompletion (s : State) : Host.Outcome State Fault Refusal :=
  .next
    (match drainDone s with
      | some k => offerAll (completeDrain k s).2 (completeDrain k s).1
      | none => s)

end Sys2Proof.Machine
end

