-- ==== Sys2Proof/Machine/Dispatch.lean ====
section
/-! DEFINITION. The meaning of every command: one arm per constructor of Instr, each one call. -/

namespace Sys2Proof.Machine

def exec (i : Instr) (s : State) : Host.Outcome State Fault Refusal :=
  match i with
  | .powerOn => Sys2Proof.Machine.execPowerOn s
  | .resetLineAsserted => Sys2Proof.Machine.execResetLineAsserted s
  | .resetLineReleased => Sys2Proof.Machine.execResetLineReleased s
  | .linkUp p => Sys2Proof.Machine.execLinkUp p s
  | .linkDown p => Sys2Proof.Machine.execLinkDown p s
  | .endOfReception p bytes d => Sys2Proof.Machine.execEndOfReception p bytes d s
  | .endOfTransmission p => Sys2Proof.Machine.execEndOfTransmission p s
  | .tick taker => Sys2Proof.Machine.execTick taker s
  | .expiry n d => Sys2Proof.Machine.execExpiry n d s
  | .leaseRunOut => Sys2Proof.Machine.execLeaseRunOut s
  | .retryTimerRunOut => Sys2Proof.Machine.execRetryTimerRunOut s
  | .gapTimerRunOut => Sys2Proof.Machine.execGapTimerRunOut s
  | .assembly => Sys2Proof.Machine.execAssembly s
  | .drainCompletion => Sys2Proof.Machine.execDrainCompletion s
  | .identify c => Sys2Proof.Machine.execIdentify c s
  | .claim c => Sys2Proof.Machine.execClaim c s
  | .release c => Sys2Proof.Machine.execRelease c s
  | .setAddress c => Sys2Proof.Machine.execSetAddress c s
  | .setManagers c => Sys2Proof.Machine.execSetManagers c s
  | .restart c => Sys2Proof.Machine.execRestart c s
  | .setMode c => Sys2Proof.Machine.execSetMode c s
  | .clearFault c => Sys2Proof.Machine.execClearFault c s
  | .writeMatch c => Sys2Proof.Machine.execWriteMatch c s
  | .readMatch c d => Sys2Proof.Machine.execReadMatch c d s
  | .stageBegin c => Sys2Proof.Machine.execStageBegin c s
  | .stageHeader c => Sys2Proof.Machine.execStageHeader c s
  | .stageState c => Sys2Proof.Machine.execStageState c s
  | .stageTransition c => Sys2Proof.Machine.execStageTransition c s
  | .stageCommit c => Sys2Proof.Machine.execStageCommit c s
  | .stageAbort c => Sys2Proof.Machine.execStageAbort c s
  | .eraseSlot c => Sys2Proof.Machine.execEraseSlot c s
  | .readSlot c d => Sys2Proof.Machine.execReadSlot c d s
  | .readTransition c d => Sys2Proof.Machine.execReadTransition c d s
  | .readContext c d => Sys2Proof.Machine.execReadContext c d s
  | .findContexts c d => Sys2Proof.Machine.execFindContexts c d s
  | .endContext c d => Sys2Proof.Machine.execEndContext c d s
  | .readPortCounters c => Sys2Proof.Machine.execReadPortCounters c s
  | .readSlotCounters c => Sys2Proof.Machine.execReadSlotCounters c s
  | .clearCounters c => Sys2Proof.Machine.execClearCounters c s
  | .pollEvents c => Sys2Proof.Machine.execPollEvents c s
  | .readAlarms c => Sys2Proof.Machine.execReadAlarms c s
  | .clearAlarms c => Sys2Proof.Machine.execClearAlarms c s
  | .setCollector c => Sys2Proof.Machine.execSetCollector c s
  | .reportAck c => Sys2Proof.Machine.execReportAck c s
  | .readReportStatus c => Sys2Proof.Machine.execReadReportStatus c s
  | .startOfReception p => Sys2Proof.Machine.execStartOfReception p s

end Sys2Proof.Machine
end

