-- ==== Sys2Proof/Safety.lean ====
section
/-! DEFINITION. What the manual promises of every state that the part reaches: the laws that the chapters state as
always holding, as decidable predicates, and the invariant that gathers them. -/

namespace Sys2Proof.Safety

open Sys2Proof.Machine

/-- R10: a transit queue holds 0 to 8 frames; R14: the count is 0 to 4, and 0 whenever the local group is empty. -/
abbrev portBounded (p : Port) (s : State) : Prop :=
  (s.port p).queue.length ≤ Config.transitDepth ∧ (s.port p).consecutive ≤ Config.fairness ∧
    (localEmpty p s = true → (s.port p).consecutive = 0)

/-- R9, R161: a DOWN port has nothing in reception, in transmission or waiting. -/
abbrev downQuiet (p : Port) (s : State) : Prop :=
  (s.port p).up = false →
    (s.port p).receiving = false ∧ (s.port p).queue = [] ∧ (s.port p).sending = none ∧ localEmpty p s = true

/-- R13, R15: at an UP port whose transmitter is IDLE nothing waits. -/
abbrev idleEmpty (p : Port) (s : State) : Prop :=
  (s.port p).up = true → (s.port p).sending = none → (s.port p).queue = [] ∧ localEmpty p s = true

/-- R8: while the RESET line is asserted both ports are DOWN. -/
abbrev heldDown (s : State) : Prop := s.resetHeld = true → s.portA.up = false ∧ s.portB.up = false

/-- The laws of chapter 1. -/
abbrev portsSound (s : State) : Prop :=
  (∀ p ∈ [Port.a, Port.b], portBounded p s ∧ downQuiet p s ∧ idleEmpty p s) ∧ heldDown s

/-- R32: while the mode is BYPASS no context is in use; R36: the mode stays BYPASS while the latch is set. -/
abbrev modeSound (s : State) : Prop :=
  (s.mode = .bypass → ∀ i : ContextIndex, s.context i = none) ∧ (s.faultLatch ≠ none → s.mode = .bypass)

/-- R50, R66, R68: a context in use names a slot that holds an image, with the slot's generation, in a state below the
state count; its two nodes differ and neither is 255. -/
abbrev contextSound (c : Context) (s : State) : Prop :=
  c.generation = (s.slot c.slot).generation ∧ c.initiator ≠ c.responder ∧ c.initiator ≠ Config.broadcast ∧
    c.responder ≠ Config.broadcast ∧
    (s.slot c.slot).status.image.any (fun img =>
      decide (c.state.val < img.header.stateCount.val) &&
        decide ((c.deadline - s.tick).toNat ≤ ((img.state c.state).timeout).toNat)) = true

/-- R69: the key of a context: its slot and unordered pair. -/
abbrev sameKey (c d : Context) : Prop := keyMatches c.slot c.initiator c.responder d = true

/-- The contexts in use of slot `k` that `which` admits. -/
def countContexts (which : Context → Bool) (s : State) : Nat :=
  (contextIndices.filter (fun i => (s.context i).any which)).length

/-- R77, R78: the live counts are the numbers of contexts in use of the slot, and of those in an ALARM state. -/
abbrev countsSound (k : SlotIndex) (s : State) : Prop :=
  (s.slot k).contextCount = countContexts (ofSlot k) s ∧
    (s.slot k).liveAlarms =
      countContexts (fun c => ofSlot k c && (s.slot k).status.alarmState c.state) s

/-- R68, R69: the laws of the context table. -/
abbrev contextsSound (s : State) : Prop :=
  (∀ i : ContextIndex, ∀ c ∈ s.context i, contextSound c s) ∧
    (∀ i j : ContextIndex, ∀ c ∈ s.context i, ∀ d ∈ s.context j, sameKey c d → i = j) ∧
    ∀ k : SlotIndex, countsSound k s

/-- R44, R46, R178: a slot is DRAINING exactly when the buffer is PENDING with it as target, and then it has a context
in use; every installed image, and the waiting one, has passed validation. -/
abbrev slotSound (k : SlotIndex) (s : State) : Prop :=
  match (s.slot k).status, s.staging with
  | .empty, .pending _ t => t ≠ k
  | .empty, _ => True
  | .active img, .pending _ t => validate img = none ∧ t ≠ k
  | .active img, _ => validate img = none
  | .draining img, .pending w t =>
    validate img = none ∧ validate w = none ∧ t = k ∧ 0 < (s.slot k).contextCount
  | .draining _, _ => False

/-- R173: the buffer is OPEN only while the lock is held. -/
abbrev stagingSound (s : State) : Prop := stagingOpen s = true → s.lock ≠ none

/-- R126, R127, R142: the queue's depth and distinct serials; while no report is current no event is pinned. -/
abbrev eventsSound (s : State) : Prop :=
  s.events.length ≤ Config.queueDepth ∧ (s.events.map Event.serial).Nodup ∧
    pinnedCount s.events ≤ Config.eventsPerReport ∧
    (reportCurrent s.report.phase = false → pinnedCount s.events = 0)

/-- R142, R144, R146: the report unit's items agree with its state and settings. -/
abbrev reportSound (s : State) : Prop :=
  (s.report.phase = .off ↔ s.collector.target = none) ∧
    (reportCurrent s.report.phase = false → s.report.retryCount = 0 ∧ s.report.captured = 0 ∧ s.report.records = []) ∧
    (s.report.phase = .awaitAck → s.report.retryTimer ≠ 0 ∧ s.collector.ackMode = .ack) ∧
    (s.report.phase ≠ .awaitAck → s.report.retryTimer = 0) ∧
    (s.report.phase = .gap ↔ s.report.gapTimer ≠ 0) ∧
    s.report.retryCount ≤ s.collector.retryLimit

/-- R156, R159, R161, R162, R164: the laws of the management unit. -/
abbrev managementSound (s : State) : Prop :=
  s.ownAddress ≠ Config.broadcast ∧
    s.managers.length ≤ Config.managerNodes ∧ s.managers.Nodup ∧ Config.broadcast ∉ s.managers ∧
    (∀ l ∈ s.lock, l.holder ≠ Config.broadcast ∧ 10 ≤ l.length.toNat ∧ l.length.toNat ≤ 60000 ∧
      1 ≤ l.remaining.toNat ∧ l.remaining ≤ l.length ∧ (s.managers ≠ [] → l.holder ∈ s.managers)) ∧
    s.responses.length ≤ Config.responseSlots ∧
    s.cache.length ≤ Config.cacheEntries ∧ (s.cache.map CacheEntry.source).Nodup

/-- R140: the collector settings lie in their ranges. -/
abbrev collectorSound (s : State) : Prop :=
  (∀ t ∈ s.collector.target, t.1 ≠ Config.broadcast) ∧ 10 ≤ s.collector.retryTimeout.toNat ∧
    s.collector.retryTimeout.toNat ≤ 1000 ∧ s.collector.pacingGap.toNat ≤ 1000

/-- R23: a match entry's kinds are a range. -/
abbrev entriesSound (s : State) : Prop := ∀ i : EntryIndex, (s.entry i).kindLow ≤ (s.entry i).kindHigh

/-- The laws of the dialogues: the context table, the slots and the staging buffer (chapters 3, 4, 6 and 10). -/
abbrev dialoguesSound (s : State) : Prop := contextsSound s ∧ ∀ k : SlotIndex, slotSound k s

/-- The laws of event delivery: the queue, the report unit and its settings (chapters 7 and 8). -/
abbrev deliverySound (s : State) : Prop := eventsSound s ∧ reportSound s ∧ collectorSound s

/-- The laws of the management unit, with R173's law that only a held lock keeps the staging buffer OPEN. -/
abbrev authoritySound (s : State) : Prop := managementSound s ∧ stagingSound s

/-- The laws together. -/
abbrev Sound (s : State) : Prop :=
  portsSound s ∧ modeSound s ∧ dialoguesSound s ∧ deliverySound s ∧ authoritySound s ∧ entriesSound s

/-! ### Terms of the statements about requests (chapter 9) -/

/-- The row of a request code as a command; the damage goes to the rows that read a protected item (R34). -/
def requestInstr (c : RequestCode) (x : Call) (d : Damage) : Instr :=
  match c with
  | .identify => .identify x
  | .claim => .claim x
  | .release => .release x
  | .setAddress => .setAddress x
  | .setManagers => .setManagers x
  | .restart => .restart x
  | .setMode => .setMode x
  | .clearFault => .clearFault x
  | .writeMatch => .writeMatch x
  | .readMatch => .readMatch x d
  | .stageBegin => .stageBegin x
  | .stageHeader => .stageHeader x
  | .stageState => .stageState x
  | .stageTransition => .stageTransition x
  | .stageCommit => .stageCommit x
  | .stageAbort => .stageAbort x
  | .eraseSlot => .eraseSlot x
  | .readSlot => .readSlot x d
  | .readTransition => .readTransition x d
  | .readContext => .readContext x d
  | .findContexts => .findContexts x d
  | .endContext => .endContext x d
  | .readPortCounters => .readPortCounters x
  | .readSlotCounters => .readSlotCounters x
  | .clearCounters => .clearCounters x
  | .pollEvents => .pollEvents x
  | .readAlarms => .readAlarms x
  | .clearAlarms => .clearAlarms x
  | .setCollector => .setCollector x
  | .reportAck => .reportAck x
  | .readReportStatus => .readReportStatus x

/-- R4 to R6: the request can arrive: from a node other than 255 and the own address, at a port that is UP, with at
most 46 parameter bytes. -/
abbrev arrives (x : Call) (s : State) : Prop :=
  x.source ≠ 255#8 ∧ x.params.length ≤ 46 ∧ (s.port x.port).up = true ∧ x.source ≠ s.ownAddress

/-- R158 checks 1 and 2: a response slot is free, and the reply cache holds no entry that the request repeats. -/
abbrev fresh (c : RequestCode) (x : Call) (s : State) : Prop :=
  s.responses.length < 2 ∧
    ∀ e ∈ s.cache, ¬(e.source = x.source ∧ e.sequence = x.sequence ∧ e.code = codeByte c ∧ e.tag = x.tag)

/-- R158 check 6: the manager list is empty or holds the requester. -/
abbrev listAdmits (x : Call) (s : State) : Prop := s.managers = [] ∨ x.source ∈ s.managers

/-- R158 check 7: the requester holds the lock. -/
abbrev holds (x : Call) (s : State) : Prop := s.lock.map Lease.holder = some x.source

/-- A request that R158 lets any node of the manager list make. -/
abbrev mayAsk (c : RequestCode) (x : Call) (s : State) : Prop := arrives x s ∧ fresh c x s ∧ listAdmits x s

/-- A request that R158 lets the holder of the lock make. -/
abbrev mayCommand (c : RequestCode) (x : Call) (s : State) : Prop := mayAsk c x s ∧ holds x s

/-- R158 check 9: the lease remaining becomes the lease length when the requester is the holder. -/
def renewed (x : Call) (s : State) : State :=
  if s.lock.map Lease.holder = some x.source then
    { s with lock := s.lock.map (fun l => { l with remaining := l.length }) }
  else s

/-- R153, R161, R162: the state `u` with the response to the request placed and cached; the response's source is the
own address in force when the request was taken, that of `s`. -/
def answered (c : RequestCode) (x : Call) (s u : State) (st : Status) (data : List Byte) : State :=
  respond s.ownAddress (callRequest c x) st data u

/-- R34, R37: a read of the item `l` when it is `present`: a damaged item is taken as a fault first. -/
def afterRead (present : Bool) (l : Location) (d : Damage) (s : State) : State :=
  if present = true ∧ d = some l then integrityFault l s else s

/-! ### Terms of the statements about ports (chapter 1) -/

/-- R4: the port's reception has ended. -/
def received (p : Port) (s : State) : State := s.modifyPort p (fun q => { q with receiving := false })

/-- The part after `n` ends of transmission at the port. -/
def afterEnds (p : Port) : Nat → State → State
  | 0, s => s
  | n + 1, s =>
    match exec (.endOfTransmission p) s with
    | .next t => afterEnds p n t
    | _ => s

/-- The part after the commands, one after another. -/
def afterAll : List Instr → State → State
  | [], s => s
  | c :: rest, s =>
    match exec c s with
    | .next t => afterAll rest t
    | _ => s

/-- R24: the five tests of a valid entry. -/
abbrev entryAdmits (p : Port) (f : Frame) (e : MatchEntry) : Prop :=
  e.valid = true ∧ (e.ports = .both ∨ (e.ports = .a ∧ p = .a) ∨ (e.ports = .b ∧ p = .b)) ∧
    (e.source = none ∨ e.source = some f.source) ∧ (e.dest = none ∨ e.dest = some f.dest) ∧
    e.kindLow ≤ f.kind ∧ f.kind ≤ e.kindHigh

end Sys2Proof.Safety
end

