-- ==== Sys2Proof/Certificates/Slice0/Obligations.lean ====
section
/-! DEFINITION. The statements for the provers, by chapter. A state that a statement writes out with all its fields is
the whole next state, so it says the frame as well: every field that it does not name is as before. -/

open Sys2Proof Sys2Proof.Machine Sys2Proof.Safety

/-! ### The step, and the resets (R168, R170) -/

/-- The step takes the command at the front of the queue and runs it on the state with the queue's rest (the queue is
the model's own, notes/assumptions/1.md). -/
def Obligations.StepRunsTheFrontCommand : Prop :=
  ∀ (c : Instr) (rest : List Instr) (s : State),
    step { s with pending := c :: rest } = exec c { s with pending := rest }

/-- R8, R10, R13, R14, R17, R23, R29, R34, R43, R67, R112, R139, R140, R142, R156, R159, R161, R162, R164, R168, R173:
the power-on values. -/
def Obligations.ResetHoldsThePowerOnValues : Prop :=
  (∀ p : Port, State.reset.port p = ⟨false, false, [], none, 0, ⟨0, 0, 0, 0, 0, 0, 0, 0, 0, 0, 0⟩⟩) ∧
    (∀ i : EntryIndex, State.reset.entry i = ⟨false, .both, none, none, 0#6, 63#6, .pass, 0#32⟩) ∧
    State.reset.mode = .bypass ∧ State.reset.defaultAction = .pass ∧ State.reset.faultLatch = none ∧
    (∀ k : SlotIndex, State.reset.slot k = ⟨.empty, 0#8, ⟨0, 0, 0, 0, 0, 0, 0, 0⟩, false, false, 0, 0⟩) ∧
    (∀ i : ContextIndex, State.reset.context i = none) ∧ State.reset.tick = 0#32 ∧
    State.reset.events = [] ∧ State.reset.nextSerial = 0#16 ∧ State.reset.lostCount = 0#8 ∧
    State.reset.collector = ⟨none, .ack, 100#16, 3#3, 0#16⟩ ∧
    State.reset.report = ⟨.off, 0#16, 0#8, 0#3, 0#16, 0#16, 0#32, 0#32, []⟩ ∧
    State.reset.ownAddress = 253#8 ∧ State.reset.managers = [] ∧ State.reset.lock = none ∧
    State.reset.responses = [] ∧ State.reset.cache = [] ∧ State.reset.overruns = 0#32 ∧
    State.reset.resetCause = .powerOn ∧ State.reset.staging = .empty

/-- R168, R170: power-on and the release of the RESET line load every item with its power-on value and record their
causes. Four clauses are the model's own (DESIGN CHOICE, notes/assumptions/4.md): the level of the line across a
power-on, the cause while the line is asserted, that the assertion itself loads every item (R170 does so at the
release), and that releasing a line not asserted does nothing. R8, R112, R170: while the RESET line is asserted, with
both ports held DOWN, no link change, no reception, no tick and no request is taken. -/
def Obligations.ResetsLoadAndHoldThePart : Prop :=
  (∀ s : State,
    exec .powerOn s =
        .next { State.reset with pending := s.pending, resetHeld := s.resetHeld, resetCause := .powerOn } ∧
      exec .resetLineAsserted s =
        .next { State.reset with pending := s.pending, resetHeld := true, resetCause := s.resetCause } ∧
      (s.resetHeld = true →
        exec .resetLineReleased s =
          .next { State.reset with pending := s.pending, resetHeld := false, resetCause := .resetLine }) ∧
      (s.resetHeld = false → exec .resetLineReleased s = .next s)) ∧
  ∀ (s : State) (p : Port) (c : RequestCode) (x : Call) (bytes : List Byte) (d : Damage),
    s.resetHeld = true → (∀ q : Port, (s.port q).up = false) →
    exec (.linkUp p) s = .next s ∧ exec (.linkDown p) s = .next s ∧ exec (.startOfReception p) s = .next s ∧
      exec (.endOfReception p bytes d) s = .next s ∧ exec (.tick .timeBase) s = .next s ∧
      exec (requestInstr c x d) s = .next s

/-! ### Counters and the check code -/

/-- R2: the register starts at FFFFh; each byte is combined into its upper eight bits, and the register is stepped
eight times; a step shifts left by one place and, when the bit shifted out is one, combines with 1021h. The nine
digits give 29B1h. Every frame that the part originates ends with the code of what stands before it, most significant
byte first, and a received frame of an admitted length whose last two bytes are not that code fails the check. -/
def Obligations.CheckCodeIsTheCrc : Prop :=
  crc [] = 0xFFFF#16 ∧
    (∀ (bs : List Byte) (b : Byte), crc (bs ++ [b]) = crcSteps 8 (crc bs ^^^ (b ++ 0#8))) ∧
    (∀ (n : Nat) (r : Word16), crcSteps 0 r = r ∧
      crcSteps (n + 1) r =
        crcSteps n (if r.getLsbD 15 then (r <<< 1) ^^^ 0x1021#16 else r <<< 1)) ∧
    crc [0x31#8, 0x32#8, 0x33#8, 0x34#8, 0x35#8, 0x36#8, 0x37#8, 0x38#8, 0x39#8] = 0x29B1#16 ∧
    (∀ (dest source : Byte) (kind : BitVec 6) (sequence : BitVec 4) (payload : List Byte),
      let body : List Byte :=
        [dest, source, kind.setWidth 8, sequence.setWidth 8, BitVec.ofNat 8 payload.length] ++ payload
      buildFrame dest source kind sequence payload =
        body ++ [(crc body).extractLsb' 8 8, (crc body).extractLsb' 0 8]) ∧
    ∀ (body : List Byte) (hi lo : Byte), 5 ≤ body.length → body.length ≤ 53 → crc body ≠ hi ++ lo →
      ingress (body ++ [hi, lo]) = .checkError

/-- R1, R5: a frame built with fields in their ranges passes the ingress checks, and every field is read back as it was
written. -/
def Obligations.BuiltFramesAreReadBack : Prop :=
  ∀ (dest source : Byte) (kind : BitVec 6) (sequence : BitVec 4) (payload : List Byte),
    payload.length ≤ 48 → source ≠ 255#8 → source ≠ dest →
    ingress (buildFrame dest source kind sequence payload) =
      .good ⟨dest, source, kind, sequence, payload, buildFrame dest source kind sequence payload⟩

/-! ### Links and reception (chapter 1) -/

/-- R8, R11: LINK_UP. R4: a port that is UP holds a frame in reception from its first byte; a DOWN port does not
receive, and at a port with no frame in reception no reception can end (notes/assumptions/5.md). -/
def Obligations.PortsRiseAndReceive : Prop :=
  (∀ (p : Port) (s : State),
    (s.resetHeld = true ∨ (s.port p).up = true → exec (.linkUp p) s = .next s) ∧
      (s.resetHeld = false → (s.port p).up = false →
        exec (.linkUp p) s = .next (s.setPort p ⟨true, false, [], none, 0, (s.port p).counters⟩))) ∧
  ∀ (p : Port) (s : State) (bytes : List Byte) (d : Damage),
    ((s.port p).up = true →
      exec (.startOfReception p) s = .next (s.setPort p { s.port p with receiving := true })) ∧
      ((s.port p).up = false →
        exec (.startOfReception p) s = .next s ∧ exec (.endOfReception p bytes d) s = .next s) ∧
      ((s.port p).receiving = false → exec (.endOfReception p bytes d) s = .next s)

/-- R8, R9, R16, R145: LINK_DOWN. The frame in reception and the frame in transmission are given up, the queue is
flushed and counted, the response slots bound to the port are freed with the cache kept, and a report frame that waits
at the port is withdrawn and its report abandoned. -/
def Obligations.LinkDownClearsThePort : Prop :=
  ∀ (p : Port) (s : State),
    ((s.port p).up = false → exec (.linkDown p) s = .next s) ∧
      ((s.port p).up = true →
        ∃ t, exec (.linkDown p) s = .next t ∧
          t.port p =
            ⟨false, false, [], none, 0,
              { (s.port p).counters with
                linkDownFlushes := satAdd (s.port p).counters.linkDownFlushes (s.port p).queue.length }⟩ ∧
          t.port p.other = s.port p.other ∧
          t.responses = s.responses.filter (fun r => r.port != p) ∧
          (if s.report.phase = .queued ∧ s.collector.target.map Prod.snd = some p then
            t.events = s.events.map (fun e => { e with pinned := false }) ∧
              t.lostCount = satAdd s.lostCount s.report.captured.toNat ∧
              t.report =
                { s.report with
                  phase := .idle, captured := 0, retryCount := 0, retryTimer := 0, gapTimer := 0, records := [] }
          else t.events = s.events ∧ t.lostCount = s.lostCount ∧ t.report = s.report) ∧
          { t with
            portA := s.portA, portB := s.portB, responses := s.responses, events := s.events,
            lostCount := s.lostCount, report := s.report } = s)

/-- R5: the seven checks in their order; the first that fails counts the frame once, and nothing else comes of it. A
frame that passes them is counted as good, with the fields that its bytes hold, and goes on under R6 or R7. -/
def Obligations.IngressChecksCountAFrameOnce : Prop :=
  ∀ (p : Port) (s : State) (bytes : List Byte) (d : Damage),
    (s.port p).up = true → (s.port p).receiving = true →
    (bytes.length < 7 ∨ 55 < bytes.length →
      exec (.endOfReception p bytes d) s = .next ((received p s).count p .malformed 1)) ∧
    (7 ≤ bytes.length → bytes.length ≤ 55 →
      (bytes16 (crc (bytes.take (bytes.length - 2))) ≠ bytes.drop (bytes.length - 2) →
        exec (.endOfReception p bytes d) s = .next ((received p s).count p .checkErrors 1)) ∧
      ∀ (dest source kind sequence len : Byte) (rest : List Byte),
        bytes = dest :: source :: kind :: sequence :: len :: rest →
        bytes16 (crc (bytes.take (bytes.length - 2))) = bytes.drop (bytes.length - 2) →
        (63 < kind.toNat ∨ 15 < sequence.toNat ∨ 48 < len.toNat ∨ bytes.length - 7 ≠ len.toNat ∨
            source = 255#8 ∨ source = dest →
          exec (.endOfReception p bytes d) s = .next ((received p s).count p .malformed 1)) ∧
        (kind.toNat ≤ 63 → sequence.toNat ≤ 15 → len.toNat ≤ 48 → bytes.length - 7 = len.toNat →
            source ≠ 255#8 → source ≠ dest →
          let f : Frame := ⟨dest, source, kind.setWidth 6, sequence.setWidth 4, rest.take len.toNat, bytes⟩
          let t := (received p s).count p .goodFrames 1
          exec (.endOfReception p bytes d) s =
            .next (if dest = s.ownAddress then takeLocally p f d t else handleTransit p f d t)))

/-- R6, R153: a good frame of kind 60 to the own address is counted as taken locally and is the request happening of
its code; a frame of any other kind to the own address is counted and discarded. The request command is the happening
of R153 itself, without its frame (notes/assumptions/8.md). -/
def Obligations.LocalFramesAreRequestsOrDiscarded : Prop :=
  ∀ (s : State) (x : Call) (kind : BitVec 6) (payload : List Byte) (c : RequestCode) (d : Damage),
    arrives x s → (s.port x.port).receiving = true → payload.length ≤ 48 →
    let t := ((received x.port s).count x.port .goodFrames 1).count x.port .takenLocally 1
    exec (.endOfReception x.port
        (buildFrame s.ownAddress x.source 60#6 x.sequence (codeByte c :: x.tag :: x.params)) d) s =
      exec (requestInstr c x d) t ∧
    (kind ≠ 60#6 →
      exec (.endOfReception x.port (buildFrame s.ownAddress x.source kind x.sequence payload) d) s = .next t)

/-! ### The fate of transit frames (R7, R10, R30) -/

/-- R7, R10, R13, R30: in BYPASS a transit frame is not classified: it is discarded when the other port is DOWN,
discarded when that port's queue holds 8 frames, and else placed at the queue's tail; at an IDLE transmitter with
nothing waiting it is selected at once. R7, R30: in MONITOR and ENFORCE the frame is classified; ENFORCE drops a DROP
verdict at the receiving port, MONITOR counts it and lets the frame go on; a frame with verdict PASS, or with no
verdict after a fault (R37), goes on. -/
def Obligations.TransitFramesMeetTheirFate : Prop :=
  (∀ (p : Port) (s : State) (bytes : List Byte) (f : Frame) (d : Damage),
    (s.port p).up = true → (s.port p).receiving = true → s.mode = .bypass →
    ingress bytes = .good f → f.dest ≠ s.ownAddress →
    let t := (received p s).count p .goodFrames 1
    let q := s.port p.other
    (q.up = false → exec (.endOfReception p bytes d) s = .next (t.count p .linkDownDiscards 1)) ∧
    (q.up = true → 8 ≤ q.queue.length →
      exec (.endOfReception p bytes d) s = .next (t.count p .congestionDiscards 1)) ∧
    (q.up = true → q.queue.length < 8 → q.sending ≠ none →
      exec (.endOfReception p bytes d) s = .next (t.setPort p.other { q with queue := q.queue ++ [bytes] })) ∧
    (q.up = true → q.queue = [] → q.sending = none → localEmpty p.other s = true →
      exec (.endOfReception p bytes d) s =
        .next (t.setPort p.other
          { q with
            sending := some bytes, consecutive := 0
            counters := { q.counters with transitSent := satAdd q.counters.transitSent 1 } }))) ∧
  ∀ (p : Port) (s : State) (bytes : List Byte) (f : Frame) (d : Damage),
    (s.port p).up = true → (s.port p).receiving = true → s.mode ≠ .bypass →
    ingress bytes = .good f → f.dest ≠ s.ownAddress →
    let c := classify p f d ((received p s).count p .goodFrames 1)
    (c.verdict = some .drop → s.mode = .enforce →
      exec (.endOfReception p bytes d) s = .next (c.state.count p .verdictDrops 1)) ∧
    (c.verdict = some .drop → s.mode = .monitor →
      exec (.endOfReception p bytes d) s = .next (forward p f (c.state.count p .wouldDrops 1))) ∧
    (c.verdict ≠ some .drop → exec (.endOfReception p bytes d) s = .next (forward p f c.state))

/-! ### The egress arbiter (R12 to R15) -/

/-- R12, R14, R15: what END_OF_TRANSMISSION makes the arbiter select: the first local frame when the transit queue is
empty or the count is 4, else the head of the queue, with the count raised while a local frame waits. A report
selected in ACK mode moves its unit to AWAIT_ACK (R144). R133, R144: in NOACK mode the selection of the report frame
delivers it: the pinned events leave uncounted, and the unit pauses for the pacing gap. -/
def Obligations.ArbiterSelectsTheNextFrame : Prop :=
  (∀ (p : Port) (s : State),
    ((s.port p).sending = none → exec (.endOfTransmission p) s = .next s) ∧
    ((s.port p).sending ≠ none → (s.port p).up = true →
      let q := s.port p
      (q.queue = [] → localEmpty p s = true →
        exec (.endOfTransmission p) s = .next (s.setPort p { q with sending := none })) ∧
      (∀ (before after : List Response) (r : Response),
        s.responses = before ++ r :: after → (∀ b ∈ before, b.port ≠ p) → r.port = p →
        q.queue = [] ∨ q.consecutive = 4 →
        exec (.endOfTransmission p) s =
          .next (({ s with responses := before ++ after }).setPort p
            { q with
              sending := some r.frame, consecutive := 0
              counters := { q.counters with localSent := satAdd q.counters.localSent 1 } })) ∧
      (∀ node : Byte, (∀ b ∈ s.responses, b.port ≠ p) → s.report.phase = .queued →
        s.collector.target = some (node, p) → s.collector.ackMode = .ack → q.queue = [] ∨ q.consecutive = 4 →
        exec (.endOfTransmission p) s =
          .next (({ s with
              report := { s.report with phase := .awaitAck, retryTimer := s.collector.retryTimeout } }).setPort p
            { q with
              sending := some (reportFrame node s), consecutive := 0
              counters := { q.counters with localSent := satAdd q.counters.localSent 1 } })) ∧
      (∀ (head : List Byte) (rest : List (List Byte)), q.queue = head :: rest →
        localEmpty p s = true ∨ q.consecutive ≠ 4 →
        exec (.endOfTransmission p) s =
          .next (s.setPort p
            { q with
              sending := some head, queue := rest
              consecutive := if localEmpty p s = true then 0 else q.consecutive + 1
              counters := { q.counters with transitSent := satAdd q.counters.transitSent 1 } })))) ∧
  ∀ (p : Port) (node : Byte) (s : State), (s.port p).up = true → (s.port p).sending ≠ none →
    s.report.phase = .queued → s.collector.target = some (node, p) → s.collector.ackMode = .noAck →
    (∀ r ∈ s.responses, r.port ≠ p) → (s.port p).queue = [] ∨ (s.port p).consecutive = 4 →
    let q := s.port p
    exec (.endOfTransmission p) s =
      .next (({ s with
          events := s.events.filter (fun e => !e.pinned)
          report := { s.report with
            phase := if s.collector.pacingGap = 0 then .idle else .gap
            captured := 0, retryCount := 0, retryTimer := 0, gapTimer := s.collector.pacingGap
            records := [] } }).setPort p
        { q with
          sending := some (reportFrame node s), consecutive := 0
          counters := { q.counters with localSent := satAdd q.counters.localSent 1 } })

/-- Section 1.6: passing traffic cannot starve the first response waiting at a port: it is selected within as many ends
of transmission as the count leaves, at most 5. Nothing is said of a response behind it. -/
def Obligations.ResponsesLeaveWithinFiveTransmissions : Prop :=
  ∀ (p : Port) (s : State) (before after : List Response) (r : Response),
    (s.port p).up = true → (s.port p).sending ≠ none → (s.port p).consecutive ≤ 4 →
    s.responses = before ++ r :: after → (∀ b ∈ before, b.port ≠ p) → r.port = p →
    ∃ n, 1 ≤ n ∧ n ≤ 5 - (s.port p).consecutive ∧
      ((afterEnds p n s).port p).sending = some r.frame ∧ (afterEnds p n s).responses = before ++ after

/-- R3, R15, R22 and section 1.9: the report frame carries serial, count, captured lost count, the low 16 bits of the
tick count and the records, from the own address in force now, with the serial modulo 16 as its sequence. R22, R125:
the ten bytes of an event record. -/
def Obligations.ReportsAndRecordsAreLaidOut : Prop :=
  (∀ (node : Byte) (s : State),
    reportFrame node s =
      buildFrame node s.ownAddress 62#6 (BitVec.ofNat 4 (s.report.serial.toNat % 16))
        ([BitVec.ofNat 8 (s.report.serial.toNat / 256), BitVec.ofNat 8 s.report.serial.toNat,
            BitVec.ofNat 8 s.report.records.length, s.report.captured,
            BitVec.ofNat 8 (s.tick.toNat / 256), BitVec.ofNat 8 s.tick.toNat] ++
          s.report.records.flatMap (fun r => recordBytes r.1 r.2))) ∧
  ∀ (serial : Word16) (e : EventBody),
    recordBytes serial e =
      [BitVec.ofNat 8 (serial.toNat / 256), BitVec.ofNat 8 serial.toNat,
        (match e.cls with
          | .transition => 1#8
          | .timeout => 2#8
          | .unexpected => 3#8
          | .retryLimit => 4#8
          | .contextFull => 5#8
          | .alarmRaised => 6#8
          | .superseded => 7#8
          | .installed => 8#8
          | .lockExpired => 9#8
          | .modeChanged => 10#8
          | .fault => 11#8), e.code,
        BitVec.ofNat 8 (64 * e.level.toNat + (match e.slot with
          | some k => k.val
          | none => 15)),
        e.initiator.getD 255#8, e.responder.getD 255#8,
        (match e.fromState with
          | some t => BitVec.ofNat 8 t.val
          | none => 255#8),
        (match e.toState with
          | some (.state t) => BitVec.ofNat 8 t.val
          | some .finish => 16#8
          | none => 255#8), e.info]

/-! ### Classification and integrity faults (chapter 2) -/

/-- R24 to R26, R29: the valid entry of the lowest index that admits the frame decides and its hit counter rises by 1;
a frame that no entry admits takes the default action and counts no hit. R34, R37: a damaged entry that the scan
reaches, one with no admitting entry below it, stops the scan: the frame carries no verdict and no hit counter rises;
damage of an item that the scan does not reach leaves the scan as it is. -/
def Obligations.FirstMatchingEntryDecides : Prop :=
  ∀ (p : Port) (f : Frame) (d : Damage) (s : State),
    let reached := fun i : EntryIndex => ∀ j < i, ¬entryAdmits p f (s.entry j)
    (∀ i : EntryIndex, reached i → d = some (.matchEntry i) →
      classify p f d s = ⟨integrityFault (.matchEntry i) s, none⟩ ∧
        ∀ j ≠ i, (classify p f d s).state.entry j = s.entry j) ∧
    (∀ i : EntryIndex, reached i → entryAdmits p f (s.entry i) → (∀ j ≤ i, d ≠ some (.matchEntry j)) →
      let t := s.setEntry i { s.entry i with hits := satAdd (s.entry i).hits 1 }
      ((s.entry i).action = .pass → classify p f d s = ⟨t, some .pass⟩) ∧
      ((s.entry i).action = .drop → classify p f d s = ⟨t, some .drop⟩) ∧
      ∀ k : SlotIndex, (s.entry i).action = .watch k → classify p f d s = actOn (.watch k) f d t) ∧
    ((∀ i : EntryIndex, ¬entryAdmits p f (s.entry i)) → (∀ i : EntryIndex, d ≠ some (.matchEntry i)) →
      classify p f d s = ⟨s, some s.defaultAction⟩)

/-- R27, R28, R37, R89: a frame handed to a slot: PASS at an EMPTY slot; a broadcast is not evaluated; any other frame
is evaluated unless the evaluation's reads, those of the slot's image and of the context that the lookup finds, meet a
fault, which leaves the frame without a verdict; at the end the verdict is DROP while the slot's latch is set and its
installed program holds on alarm. -/
def Obligations.WatchedFramesAreHeldOnAlarm : Prop :=
  ∀ (k : SlotIndex) (f : Frame) (d : Damage) (s : State) (img : Image),
    ((s.slot k).status = .empty → actOn (.watch k) f d s = ⟨s, some .pass⟩) ∧
    ∀ draining : Bool, (s.slot k).status = (if draining then .draining img else .active img) →
      (f.dest = 255#8 →
        actOn (.watch k) f d s =
          ⟨s, some (if (s.slot k).latched = true ∧ img.header.holdOnAlarm = true then .drop else .pass)⟩) ∧
      (f.dest ≠ 255#8 → d ≠ some (.program k) →
        (∀ i : ContextIndex, lookup k f.source f.dest s = some i → d ≠ some (.context i)) →
        let e := evaluateSound k img draining f s
        let held := ∃ g ∈ (e.state.slot k).status.image, g.header.holdOnAlarm = true
        (actOn (.watch k) f d s).state = e.state ∧
          ((e.state.slot k).latched = true → held → (actOn (.watch k) f d s).verdict = some .drop) ∧
          (¬((e.state.slot k).latched = true ∧ held) → (actOn (.watch k) f d s).verdict = some e.verdict)) ∧
      (f.dest ≠ 255#8 → d = some (.program k) →
        actOn (.watch k) f d s = ⟨integrityFault (.program k) s, none⟩) ∧
      (∀ i : ContextIndex, f.dest ≠ 255#8 → lookup k f.source f.dest s = some i → d = some (.context i) →
        actOn (.watch k) f d s = ⟨integrityFault (.context i) s, none⟩)

/-- R34 to R36, R38: the whole effect of an integrity fault. The faulty item is removed: an entry takes its cleared
values, an ACTIVE slot's contexts end and it becomes EMPTY, a DRAINING slot's contexts end, a context in use ends. The
latch keeps the first location and FAULT is offered first. In BYPASS only the INSTALLED event of a drain that the
removal completed follows, and no context ends but the faulty one or those of the faulty slot. In MONITOR and ENFORCE
the mode changes to BYPASS, every other context ends too, any INSTALLED event follows, and MODE_CHANGED comes last,
its info the number of all the contexts that the fault ended. R35: a drain whose slot the fault empties, its own
image's or another, is completed: one INSTALLED event, the staged program ACTIVE with the next generation. -/
def Obligations.IntegrityFaultLeavesBypass : Prop :=
  ∀ (l : Location) (s : State),
    let t := integrityFault l s
    let latch : Option Location := match s.faultLatch with
      | some first => some first
      | none => some l
    let fault : EventBody := match l with
      | .matchEntry i => ⟨.fault, 3#2, 1#8, none, none, none, none, none, BitVec.ofNat 8 i.val⟩
      | .program k => ⟨.fault, 3#2, 2#8, some k, none, none, none, none, BitVec.ofNat 8 k.val⟩
      | .context i => ⟨.fault, 3#2, 3#8, none, none, none, none, none, BitVec.ofNat 8 i.val⟩
    let ofFaultySlot := fun k : SlotIndex => endContexts (fun c => c.slot == k) .fault s
    let removed : State × List EventBody := match l with
      | .matchEntry i => (s.setEntry i .cleared, [])
      | .program k =>
        match (s.slot k).status with
        | .active _ =>
          ((ofFaultySlot k).state.modifySlot k (fun x =>
            { x with status := .empty, latched := false, fullReported := false }), (ofFaultySlot k).events)
        | _ => ((ofFaultySlot k).state, (ofFaultySlot k).events)
      | .context i => endContext i .fault s
    let told := offer fault { removed.1 with faultLatch := latch }
    let rest := endContexts (fun _ => true) .fault { told with mode := .bypass }
    let installed : List EventBody := if s.mode = .bypass then removed.2 else removed.2 ++ rest.events
    (s.mode = .bypass →
      t = offerAll installed told ∧
      ∀ i : ContextIndex, t.context i = (s.context i).filter (fun c => match l with
        | .matchEntry _ => true
        | .program k => c.slot != k
        | .context j => i != j)) ∧
    (s.mode ≠ .bypass →
      t = offer ⟨.modeChanged, 1#2, 0#8, none, none, none, none, none,
          BitVec.ofNat 8 (min 255 (countContexts (fun _ => true) s))⟩ (offerAll installed rest.state) ∧
      ∀ i : ContextIndex, t.context i = none) ∧
    t.mode = .bypass ∧ t.faultLatch = latch ∧
      t.defaultAction = s.defaultAction ∧ t.tick = s.tick ∧ t.lock = s.lock ∧ t.responses = s.responses ∧
      t.cache = s.cache ∧ t.collector = s.collector ∧ t.report = s.report ∧ t.portA = s.portA ∧ t.portB = s.portB ∧
      (∀ i : EntryIndex, t.entry i = if l = .matchEntry i then MatchEntry.cleared else s.entry i) ∧
      (∀ (k : SlotIndex) (img : Image), l = .program k → (s.slot k).status = .active img →
        (t.slot k).status = .empty ∧ (t.slot k).latched = false ∧ (t.slot k).fullReported = false ∧
          (t.slot k).generation = (s.slot k).generation) ∧
      (∀ (k : SlotIndex) (img old : Image), l = .program k ∨ s.mode ≠ .bypass → s.staging = .pending img k →
        (s.slot k).status = .draining old → countsSound k s → 0 < (s.slot k).contextCount →
        installed = [⟨.installed, 0#2, 0#8, some k, none, none, none, none, (s.slot k).generation + 1⟩] ∧
          t.staging = .empty ∧
          t.slot k = { (install k img s).slot k with contextCount := 0, liveAlarms := 0 }) ∧
      ((∀ (img : Image) (k : SlotIndex), s.staging ≠ .pending img k) → installed = [] ∧ t.staging = s.staging)

/-! ### Program slots and validation (chapter 3) -/

/-- R57, R58: validation accepts exactly the images whose fields fit together. Of any other image it reports the first
failure: the header's, else that of the lowest failing state below the state count, else that of the lowest failing
filled position, else NO_ENTRY; within each, the first reason of R58's order. STAGE_COMMIT carries a failure as reason,
place and index. -/
def Obligations.ValidationAcceptsFittingImages : Prop :=
  (∀ img : Image,
    let n := img.header.stateCount.val
    let fits := fun g : Target => match g with
      | .state t => t.val < n
      | .finish => True
    let startsNot := ∀ (p : Position) (t : Transition), img.positions[p] = some t → t.fromState ≠ 0
    let headerFails := fun r : FailReason =>
      (n = 0 ∧ r = .noStates) ∨ (n ≠ 0 ∧ (∃ g, img.header.unexpected.target = .move g ∧ ¬fits g) ∧ r = .badTarget)
    let stateFails := fun (t : StateIndex) (r : FailReason) =>
      t.val < n ∧
        (((img.state t).timeout = 0 ∧ r = .timeoutUnset) ∨
          ((img.state t).timeout ≠ 0 ∧ ¬fits (img.state t).target ∧ r = .badTarget))
    let positionFails := fun (p : Position) (r : FailReason) => ∃ t : Transition, img.positions[p] = some t ∧
      let badFrom := n ≤ t.fromState.val
      let badKinds := t.kindHigh < t.kindLow
      let startsReverse := t.fromState = 0 ∧ t.direction = .reverse
      let badRelation := (t.relation = .next ∨ t.relation = .same) ∧ (t.direction = .reverse ∨ t.fromState = 0)
      (badFrom ∧ r = .badFrom) ∨
        (¬badFrom ∧ ¬fits t.target ∧ r = .badTarget) ∨
        (¬badFrom ∧ fits t.target ∧ badKinds ∧ r = .badKindRange) ∨
        (¬badFrom ∧ fits t.target ∧ ¬badKinds ∧ startsReverse ∧ r = .startNotForward) ∨
        (¬badFrom ∧ fits t.target ∧ ¬badKinds ∧ ¬startsReverse ∧ badRelation ∧ r = .badRelation)
    (validate img = none ↔
      0 < n ∧ (∀ g : Target, img.header.unexpected.target = .move g → fits g) ∧
      (∀ t : StateIndex, t.val < n → (img.state t).timeout ≠ 0 ∧ fits (img.state t).target) ∧
      (∀ (p : Position) (t : Transition), img.positions[p] = some t →
        t.fromState.val < n ∧ fits t.target ∧ t.kindLow ≤ t.kindHigh ∧
          (t.fromState = 0 → t.direction = .forward) ∧
          (t.relation = .next ∨ t.relation = .same → t.direction = .forward ∧ t.fromState ≠ 0)) ∧
      ∃ (p : Position) (t : Transition), img.positions[p] = some t ∧ t.fromState = 0) ∧
    ∀ r : FailReason,
      (validate img = some ⟨r, .header⟩ ↔ headerFails r) ∧
      (∀ t : StateIndex, validate img = some ⟨r, .state t⟩ ↔
        (∀ x, ¬headerFails x) ∧ stateFails t r ∧ ∀ u < t, ∀ x, ¬stateFails u x) ∧
      (∀ p : Position, validate img = some ⟨r, .transition p⟩ ↔
        (∀ x, ¬headerFails x) ∧ (∀ t x, ¬stateFails t x) ∧ positionFails p r ∧ ∀ q < p, ∀ x, ¬positionFails q x) ∧
      (validate img = some ⟨r, .whole⟩ ↔
        (∀ x, ¬headerFails x) ∧ (∀ t x, ¬stateFails t x) ∧ (∀ p x, ¬positionFails p x) ∧ startsNot ∧ r = .noEntry)) ∧
  ∀ x : Failure,
    failureBytes x =
      (match x.reason with
        | .noStates => 1#8
        | .timeoutUnset => 2#8
        | .badTarget => 3#8
        | .badFrom => 4#8
        | .badKindRange => 5#8
        | .startNotForward => 6#8
        | .badRelation => 7#8
        | .noEntry => 8#8) ::
      (match x.place with
        | .header => [0#8, 255#8]
        | .state t => [1#8, BitVec.ofNat 8 t.val]
        | .transition p => [2#8, BitVec.ofNat 8 p.val]
        | .whole => [3#8, 255#8])

/-- R45, R46, R52: an install. R178: DRAIN_COMPLETION installs the staged image of a DRAINING target with no context
left, empties the buffer and offers INSTALLED; otherwise nothing is done (notes/assumptions/10.md). -/
def Obligations.InstallsAndCompletedDrains : Prop :=
  (∀ (k : SlotIndex) (img : Image) (s : State),
    ∃ image : Image,
      install k img s =
        s.modifySlot k (fun x =>
          ⟨.active image, x.generation + 1, ⟨0, 0, 0, 0, 0, 0, 0, 0⟩, false, false, x.contextCount, x.liveAlarms⟩) ∧
      image.header = img.header ∧ image.positions = img.positions ∧
      ∀ t : StateIndex, t.val < img.header.stateCount.val → image.state t = img.state t) ∧
  ∀ (s : State),
    (∀ (img old : Image) (k : SlotIndex), s.staging = .pending img k → (s.slot k).status = .draining old →
      ((s.slot k).contextCount = 0 →
        exec .drainCompletion s =
          .next (offer ⟨.installed, 0#2, 0#8, some k, none, none, none, none, (s.slot k).generation + 1⟩
            (install k img { s with staging := .empty }))) ∧
      ((s.slot k).contextCount ≠ 0 → exec .drainCompletion s = .next s)) ∧
    ((∀ img k, s.staging ≠ .pending img k) → exec .drainCompletion s = .next s)

/-! ### Contexts (chapter 4) -/

/-- R70, R72, R92, R98: each search finds the lowest: the context of the slot and the unordered pair, the free
context, and the filled position that accepts. R92: what an anchor tests: from-state 0, the kind range, the relation
ANY or NEW and the payload. R98: what a position of a live context tests: from-state, direction, the kind range, the
relation and the payload. R54, R99: the four relations, and the payload test. -/
def Obligations.SearchesAndTestsFindTheLowest : Prop :=
  (∀ (s : State) (k : SlotIndex) (a b : Byte) (i : ContextIndex) (img : Image) (accepts : Transition → Bool)
      (t : Transition),
    let found := fun j : ContextIndex => ∃ c ∈ s.context j,
      c.slot = k ∧ ((c.initiator = a ∧ c.responder = b) ∨ (c.initiator = b ∧ c.responder = a))
    (lookup k a b s = some i ↔ found i ∧ ∀ j < i, ¬found j) ∧
    (lookup k a b s = none ↔ ∀ j, ¬found j) ∧
    (freeIndex s = some i ↔ s.context i = none ∧ ∀ j < i, s.context j ≠ none) ∧
    (freeIndex s = none ↔ ∀ j, s.context j ≠ none) ∧
    (firstPosition img accepts = some t ↔
      ∃ p : Position, img.positions[p] = some t ∧ accepts t = true ∧
        ∀ q < p, ∀ u ∈ img.positions[q], accepts u = false) ∧
    (firstPosition img accepts = none ↔ ∀ q : Position, ∀ u ∈ img.positions[q], accepts u = false)) ∧
  (∀ (f : Frame) (t : Transition) (st : StateIndex) (dir : Direction) (last : BitVec 4),
    let fits := t.kindLow ≤ f.kind ∧ f.kind ≤ t.kindHigh ∧ payloadHolds t.test f.payload = true
    (anchorAccepts f t = true ↔ t.fromState = 0 ∧ (t.relation = .any ∨ t.relation = .new) ∧ fits) ∧
    (positionAccepts st dir last f t = true ↔
      t.fromState = st ∧ t.direction = dir ∧ relationHolds t.relation last f.sequence = true ∧ fits)) ∧
  (∀ last sequence : BitVec 4,
    relationHolds .any last sequence = true ∧
      (relationHolds .next last sequence = true ↔ sequence.toNat = (last.toNat + 1) % 16) ∧
      (relationHolds .same last sequence = true ↔ sequence = last) ∧
      (relationHolds .new last sequence = true ↔ sequence ≠ last)) ∧
  ∀ (payload : List Byte) (t : PayloadTest),
    payloadHolds none payload = true ∧
      (payloadHolds (some t) payload = true ↔
        ∃ b, payload[t.offset.val]? = some b ∧ b &&& t.mask = t.value &&& t.mask)

/-- R79: ending a context frees it, lowers the live counts, counts the end by its reason and clears every
full-reported flag; the last end of a DRAINING slot installs the staged program and leaves its INSTALLED event to be
offered. R81: a happening that ends several contexts frees exactly those it names, and counts them. Nothing but the
context table, the slots and, where a drain completes, the staging buffer changes; a slot that loses no context loses
at most its full-reported flag. A slot that loses contexts has its live counts lowered by the numbers ended and its
end counter of the reason raised by theirs; where the ends are the last of a DRAINING slot, the waiting program is
installed in it and one INSTALLED event is left to be offered; else there is none. -/
def Obligations.EndingContexts : Prop :=
  (∀ (i : ContextIndex) (reason : EndReason) (s : State) (c : Context), s.context i = some c →
    let x := s.slot c.slot
    let alarm : Bool := x.status.image.any (fun img => (img.state c.state).alarm)
    let n := x.counters
    let counters : SlotCounters := match reason with
      | .finish => { n with endedByEnd := satAdd n.endedByEnd 1 }
      | .timeout => { n with endedByTimeout := satAdd n.endedByTimeout 1 }
      | _ => { n with endedOtherwise := satAdd n.endedOtherwise 1 }
    let freed := ((s.setContext i none).modifySlot c.slot (fun x =>
        { x with
          contextCount := x.contextCount - 1
          liveAlarms := if alarm then x.liveAlarms - 1 else x.liveAlarms
          counters := counters })).modifySlots (fun x => { x with fullReported := false })
    ((∀ old, x.status = .draining old → x.contextCount - 1 ≠ 0) → endContext i reason s = (freed, [])) ∧
    (∀ old img, x.status = .draining old → x.contextCount - 1 = 0 → s.staging = .pending img c.slot →
      endContext i reason s =
        (install c.slot img { freed with staging := .empty },
          [⟨.installed, 0#2, 0#8, some c.slot, none, none, none, none, x.generation + 1⟩]))) ∧
  ∀ (which : Context → Bool) (reason : EndReason) (s : State),
    let e := endContexts which reason s
    (∀ i : ContextIndex, e.state.context i = (s.context i).filter (fun c => !which c)) ∧
      e.count = countContexts which s ∧
      { e.state with contexts := s.contexts, slots := s.slots, staging := s.staging } = s ∧
      (∀ k : SlotIndex, (∀ i : ContextIndex, ∀ c ∈ s.context i, which c = true → c.slot ≠ k) →
        { e.state.slot k with fullReported := (s.slot k).fullReported } = s.slot k) ∧
      (let ended := fun k : SlotIndex => countContexts (fun c => which c && c.slot == k) s
       let alarms := fun k : SlotIndex => countContexts (fun c =>
         which c && c.slot == k && (s.slot k).status.image.any (fun img => (img.state c.state).alarm)) s
       let lost := fun (k : SlotIndex) (x : Slot) =>
         let n := x.counters
         { x with
           contextCount := x.contextCount - ended k, liveAlarms := x.liveAlarms - alarms k
           fullReported := if e.count = 0 then x.fullReported else false
           counters := match reason with
             | .finish => { n with endedByEnd := satAdd n.endedByEnd (ended k) }
             | .timeout => { n with endedByTimeout := satAdd n.endedByTimeout (ended k) }
             | _ => { n with endedOtherwise := satAdd n.endedOtherwise (ended k) } }
       let goesOn := fun k : SlotIndex =>
         ∀ old, (s.slot k).status = .draining old → ended k = 0 ∨ ended k < (s.slot k).contextCount
       (∀ k : SlotIndex, goesOn k → e.state.slot k = lost k (s.slot k)) ∧
       ((∀ img k, s.staging = .pending img k → goesOn k) → e.events = [] ∧ e.state.staging = s.staging) ∧
       ∀ (img old : Image) (k : SlotIndex), s.staging = .pending img k → (s.slot k).status = .draining old →
         0 < ended k → ended k = (s.slot k).contextCount →
         e.state.slot k = (install k img (s.modifySlot k (lost k))).slot k ∧ e.state.staging = .empty ∧
           e.events = [⟨.installed, 0#2, 0#8, some k, none, none, none, none, (s.slot k).generation + 1⟩])

/-! ### Frame evaluation (chapter 5) -/

/-- R66, R72, R92, R94, R103, R104, R107, R108: a frame without a context in an ACTIVE slot, whose first accepting
anchor names a state, creates a context at the lowest free index; creation in an ALARM state raises the live alarm
count and, with the latch clear, sets it and offers ALARM_RAISED after the anchor's own event. R74, R75, R91 to R93:
the other frames without a context: unanchored in a DRAINING slot or where no anchor accepts; an anchor to END; an
anchor refused by a full table, with the slot's overflow verdict and one CONTEXT_FULL event for each full episode. -/
def Obligations.AnchorsAttempted : Prop :=
  (∀ (k : SlotIndex) (img : Image) (f : Frame) (s : State) (t : Transition) (target : StateIndex) (i : ContextIndex),
    lookup k f.source f.dest s = none → firstPosition img (anchorAccepts f) = some t →
    t.target = .state target → freeIndex s = some i →
    let x := s.slot k
    let alarm : Bool := (img.state target).alarm
    let own : List EventBody := match t.event with
      | none => []
      | some e =>
        [⟨.transition, e.level, e.code, some k, some f.source, some f.dest, some 0, some (.state target),
          f.kind.setWidth 8⟩]
    let raised : List EventBody := if alarm = true ∧ x.latched = false then
        [⟨.alarmRaised, 2#2, 0#8, some k, some f.source, some f.dest, some 0, some (.state target),
          countByte (x.liveAlarms + 1)⟩]
      else []
    let context : Context :=
      ⟨k, x.generation, f.source, f.dest, target, s.tick + (img.state target).timeout.setWidth 32, f.sequence, 0#4,
        1#16, s.tick⟩
    let created := (s.setContext i (some context)).modifySlot k (fun x =>
      { x with
        contextCount := x.contextCount + 1
        liveAlarms := if alarm then x.liveAlarms + 1 else x.liveAlarms
        counters := { x.counters with created := satAdd x.counters.created 1 }
        latched := x.latched || alarm })
    evaluateSound k img false f s = ⟨offerAll (own ++ raised) created, t.verdict⟩) ∧
  ∀ (k : SlotIndex) (img : Image) (f : Frame) (s : State), lookup k f.source f.dest s = none →
    let n := (s.slot k).counters
    let passed : Evaluated :=
      ⟨s.modifySlot k (fun x => { x with counters := { n with unanchored := satAdd n.unanchored 1 } }), .pass⟩
    evaluateSound k img true f s = passed ∧
    (firstPosition img (anchorAccepts f) = none → evaluateSound k img false f s = passed) ∧
    ∀ t : Transition, firstPosition img (anchorAccepts f) = some t →
      (t.target = .finish →
        evaluateSound k img false f s =
          ⟨(match t.event with
            | none => s
            | some e =>
              offer ⟨.transition, e.level, e.code, some k, some f.source, some f.dest, some 0, some .finish,
                f.kind.setWidth 8⟩ s), t.verdict⟩) ∧
      (∀ target, t.target = .state target → freeIndex s = none →
        let refused := s.modifySlot k (fun x =>
          { x with
            counters := { n with overflowRefusals := satAdd n.overflowRefusals 1 }, fullReported := true })
        evaluateSound k img false f s =
          ⟨if (s.slot k).fullReported then refused
            else offer ⟨.contextFull, 2#2, 0#8, some k, some f.source, some f.dest, none, none, 96#8⟩ refused,
            img.header.overflow⟩)

/-- R95 to R102, R105, R107: a frame of a live context. A FORWARD frame counts a retransmission or clears the count
and gives its sequence; a count above the state's limit is a retry-limit hit; else the first accepting position is
taken; else the frame is unexpected. Each outcome moves the record and offers its program event before the events of
the move. -/
def Obligations.FramesOfALiveContext : Prop :=
  ∀ (k : SlotIndex) (img : Image) (draining : Bool) (f : Frame) (s : State) (i : ContextIndex) (c : Context),
    lookup k f.source f.dest s = some i → s.context i = some c →
    let forward : Prop := f.source = c.initiator
    let again : Prop := forward ∧ f.sequence = c.lastSequence
    let retries : BitVec 4 :=
      if again then BitVec.ofNat 4 (min 15 (c.retryCount.toNat + 1)) else if forward then 0 else c.retryCount
    let record : Context :=
      { c with
        framesTaken := BitVec.ofNat 16 (min 65535 (c.framesTaken.toNat + 1))
        lastSequence := if forward then f.sequence else c.lastSequence, retryCount := retries }
    let limit := (img.state c.state).retryLimit
    let hit : Prop := again ∧ limit ≠ 15#4 ∧ limit < retries
    let dir : Direction := if forward then .forward else .reverse
    let accepts : Transition → Bool := positionAccepts c.state dir c.lastSequence f
    let u := img.header.unexpected
    let move : Option Target := match u.target with
      | .stay => none
      | .move g => some g
    let outcome := fun (cls : EventClass) (event : Option EventSetting) (record : Context) (move : Option Target)
        (verdict : Verdict) (t : State) =>
      let r := applyMove i img record move t
      let own : List EventBody := match event with
        | none => []
        | some e =>
          [⟨cls, e.level, e.code, some c.slot, some c.initiator, some c.responder, some c.state,
            some (move.getD (.state c.state)), f.kind.setWidth 8⟩]
      (⟨offerAll (own ++ r.2) r.1, verdict⟩ : Evaluated)
    (hit →
      evaluateSound k img draining f s =
        outcome .retryLimit u.event { record with retryCount := 0 } move u.verdict
          (s.countSlot c.slot .retryLimitHits)) ∧
    (¬hit →
      (∀ t, firstPosition img accepts = some t →
        evaluateSound k img draining f s = outcome .transition t.event record (some t.target) t.verdict s) ∧
      (firstPosition img accepts = none →
        evaluateSound k img draining f s =
          outcome .unexpected u.event record move u.verdict (s.countSlot c.slot .unexpected)))

/-- R78, R97, R100 to R105, R114: what a move does: STAY writes the record with its deadline as it stands; END ends
the context; a state is entered with its deadline armed afresh and the retry count cleared when the state changes, the
live alarm count follows the state's kind, and an entry from NORMAL into ALARM sets a clear latch and leaves
ALARM_RAISED to be offered. -/
def Obligations.MovesOfALiveContext : Prop :=
  ∀ (i : ContextIndex) (img : Image) (c : Context) (s : State),
    applyMove i img c none s = (s.setContext i (some c), []) ∧
    applyMove i img c (some .finish) s = endContext i .finish s ∧
    ∀ t : StateIndex,
      let x := s.slot c.slot
      let before : Bool := (img.state c.state).alarm
      let after : Bool := (img.state t).alarm
      let live := if before = after then x.liveAlarms else if after then x.liveAlarms + 1 else x.liveAlarms - 1
      let entry : Bool := !before && after
      applyMove i img c (some (.state t)) s =
        ((s.setContext i (some
            { c with
              state := t, deadline := s.tick + (img.state t).timeout.setWidth 32
              retryCount := if t = c.state then c.retryCount else 0 })).modifySlot c.slot
            (fun x => { x with liveAlarms := live, latched := x.latched || entry }),
          if entry = true ∧ x.latched = false then
            [⟨.alarmRaised, 2#2, 0#8, some c.slot, some c.initiator, some c.responder, some c.state, some (.state t),
              countByte live⟩]
          else [])

/-! ### Time (chapter 6; R113, R146, R149, R164) -/

/-- R112, R113: the time base's tick raises the count by 1, from FFFFFFFFh to 0, and each of the other two blocks has
it to take; with no expiry due and no earlier tick left to take, it changes nothing else. While expiries are due or
ticks are left to take, the TICK is first the expiries in ascending index, without damage, then the management unit's
tick, then the report unit's, and then the count (that it settles them, and in this order, is the model's choice,
DESIGN CHOICE, notes/assumptions/2.md). -/
def Obligations.TimeBaseCountsTheTick : Prop :=
  ∀ s : State, s.resetHeld = false →
    (∃ t, exec (.tick .timeBase) s = .next t ∧ t.tick.toNat = (s.tick.toNat + 1) % 4294967296 ∧
      t.managementTickOwed = true ∧ t.reportTickOwed = true) ∧
    (let settled := afterAll
        (contextIndices.map (fun i => .expiry i none) ++ [.tick .managementUnit, .tick .reportUnit]) s
     exec (.tick .timeBase) s =
        .next { settled with tick := s.tick + 1, managementTickOwed := true, reportTickOwed := true }) ∧
    ((∀ (i : ContextIndex), ∀ c ∈ s.context i, c.deadline ≠ s.tick) → s.managementTickOwed = false →
      s.reportTickOwed = false →
      exec (.tick .timeBase) s =
        .next { s with tick := s.tick + 1, managementTickOwed := true, reportTickOwed := true })

/-- R113, R164: the management unit's tick lowers the lease remaining by 1; at 0 the lock becomes FREE, an OPEN
staging buffer is discarded and LOCK_EXPIRED names the former holder. LEASE_RUN_OUT is that tick and no other (the
model's reading, notes/assumptions/3.md). -/
def Obligations.LeaseFallsAndRunsOut : Prop :=
  ∀ s : State,
    let taken : State := { s with managementTickOwed := false }
    (s.managementTickOwed = false →
      exec (.tick .managementUnit) s = .next s ∧ exec .leaseRunOut s = .next s) ∧
    (s.managementTickOwed = true → s.lock = none →
      exec (.tick .managementUnit) s = .next taken ∧ exec .leaseRunOut s = .next s) ∧
    ∀ l : Lease, s.managementTickOwed = true → s.lock = some l →
      (1 < l.remaining.toNat →
        exec (.tick .managementUnit) s =
            .next { taken with lock := some ⟨l.holder, l.length, l.remaining - 1⟩ } ∧
          exec .leaseRunOut s = .next s) ∧
      (l.remaining.toNat ≤ 1 →
        let freed : State := { taken with
          lock := none
          staging := match s.staging with
            | .opened _ => .empty
            | other => other }
        let told := offer ⟨.lockExpired, 1#2, 0#8, none, none, none, none, none, l.holder⟩ freed
        exec (.tick .managementUnit) s = .next told ∧ exec .leaseRunOut s = .next told)

/-- R113, R145 to R147, R149: the report unit's tick. In AWAIT_ACK the retry timer falls by 1; when it runs out the
report is retransmitted below the retry limit (waiting while the transmitter sends, selected at once where it is IDLE
with nothing waiting, refused and abandoned at a DOWN port) and given up at it. RETRY_TIMER_RUN_OUT is that tick and
no other, and does nothing outside AWAIT_ACK (notes/assumptions/3.md). R113, R149: in GAP the gap timer falls by 1 at
the report unit's tick, and when it runs out the unit is IDLE; GAP_TIMER_RUN_OUT is that tick and no other, and does
nothing outside GAP (notes/assumptions/3.md). In OFF, IDLE and QUEUED no timer of the unit runs. -/
def Obligations.ReportTimersFallAndRunOut : Prop :=
  (∀ s : State, s.report.phase = .awaitAck →
    let taken : State := { s with reportTickOwed := false }
    let r := s.report
    (s.reportTickOwed = false →
      exec (.tick .reportUnit) s = .next s ∧ exec .retryTimerRunOut s = .next s) ∧
    (s.reportTickOwed = true → 1 < r.retryTimer.toNat →
      exec (.tick .reportUnit) s = .next { taken with report := { r with retryTimer := r.retryTimer - 1 } } ∧
        exec .retryTimerRunOut s = .next s) ∧
    (s.reportTickOwed = true → r.retryTimer.toNat ≤ 1 →
      exec .retryTimerRunOut s = exec (.tick .reportUnit) s ∧
      (∀ (node : Byte) (p : Port), r.retryCount < s.collector.retryLimit → s.collector.target = some (node, p) →
        ((s.port p).up = true → (s.port p).sending ≠ none →
          exec .retryTimerRunOut s =
            .next { taken with
              report := { r with phase := .queued, retryCount := r.retryCount + 1, retryTimer := 0 } }) ∧
        ((s.port p).up = true → (s.port p).sending = none → (s.port p).queue = [] →
          (∀ x ∈ s.responses, x.port ≠ p) → s.collector.ackMode = .ack →
          let q := s.port p
          let again : ReportUnit :=
            { r with phase := .awaitAck, retryCount := r.retryCount + 1, retryTimer := s.collector.retryTimeout }
          exec .retryTimerRunOut s =
            .next (({ taken with report := again }).setPort p
              { q with
                sending := some (reportFrame node s), consecutive := 0
                counters := { q.counters with localSent := satAdd q.counters.localSent 1 } })) ∧
        ((s.port p).up = false →
          exec .retryTimerRunOut s =
            .next { taken with
              events := s.events.map (fun e => { e with pinned := false })
              lostCount := satAdd s.lostCount r.captured.toNat
              report := { r with
                phase := .idle, captured := 0, retryCount := 0, retryTimer := 0, gapTimer := 0, records := [] } })) ∧
      (s.collector.retryLimit ≤ r.retryCount →
        exec .retryTimerRunOut s =
          .next { taken with
            events := s.events.filter (fun e => !e.pinned)
            lostCount := satAdd s.lostCount (pinnedCount s.events + r.captured.toNat)
            report := { r with
              phase := if s.collector.pacingGap = 0 then .idle else .gap
              captured := 0, retryCount := 0, retryTimer := 0, gapTimer := s.collector.pacingGap, records := [] } }))) ∧
  ∀ s : State,
    let taken : State := { s with reportTickOwed := false }
    let r := s.report
    (s.reportTickOwed = false →
      exec (.tick .reportUnit) s = .next s ∧ exec .gapTimerRunOut s = .next s) ∧
    (s.reportTickOwed = true → r.phase = .gap → 1 < r.gapTimer.toNat →
      exec (.tick .reportUnit) s = .next { taken with report := { r with gapTimer := r.gapTimer - 1 } } ∧
        exec .gapTimerRunOut s = .next s) ∧
    (s.reportTickOwed = true → r.phase = .gap → r.gapTimer.toNat ≤ 1 →
      let idle : State := { taken with
        report := { r with
          phase := .idle, captured := 0, retryCount := 0, retryTimer := 0, gapTimer := 0, records := [] } }
      exec (.tick .reportUnit) s = .next idle ∧ exec .gapTimerRunOut s = .next idle) ∧
    (s.reportTickOwed = true → r.phase ≠ .gap → r.phase ≠ .awaitAck →
      exec (.tick .reportUnit) s = .next taken) ∧
    (r.phase ≠ .gap → exec .gapTimerRunOut s = .next s) ∧
    (r.phase ≠ .awaitAck → exec .retryTimerRunOut s = .next s)

/-- R79, R114 to R120: EXPIRY. Only a due context expires; a damaged context or image is taken as a fault; else the
timeout target of its state is applied: an end with reason TIMEOUT, or a state entered with a fresh deadline and the
retry count cleared, the TIMEOUT event first. -/
def Obligations.ExpiryAppliesTheTimeoutTarget : Prop :=
  ∀ (i : ContextIndex) (d : Damage) (s : State),
    (s.context i = none → exec (.expiry i d) s = .next s) ∧
    ∀ c : Context, s.context i = some c →
      (c.deadline ≠ s.tick → exec (.expiry i d) s = .next s) ∧
      (c.deadline = s.tick → d = some (.context i) → exec (.expiry i d) s = .next (integrityFault (.context i) s)) ∧
      ∀ img : Image, c.deadline = s.tick → (s.slot c.slot).status.image = some img →
        (d = some (.program c.slot) → exec (.expiry i d) s = .next (integrityFault (.program c.slot) s)) ∧
        (d ≠ some (.context i) → d ≠ some (.program c.slot) →
          let r := img.state c.state
          let own : List EventBody := match r.event with
            | none => []
            | some e =>
              [⟨.timeout, e.level, e.code, some c.slot, some c.initiator, some c.responder, some c.state,
                some r.target, c.retryCount.setWidth 8⟩]
          (r.target = .finish →
            let e := endContext i .timeout s
            exec (.expiry i d) s = .next (offerAll (own ++ e.2) e.1)) ∧
          (∀ t, r.target = .state t →
            let e := applyMove i img { c with retryCount := 0 } (some (.state t)) s
            exec (.expiry i d) s = .next (offerAll (own ++ e.2) e.1)))

/-! ### Events and reports (chapters 7 and 8) -/

/-- R127 to R130: an offer meets the event that holds the next serial, which is removed and counted lost (before the
queue's depth is looked at: notes/assumptions/7.md); then it is admitted below 32 events, or displaces the newest
unpinned event of the lowest level when its own is higher, or is discarded and counted lost. -/
def Obligations.OffersAreAdmittedDisplaceOrAreLost : Prop :=
  ∀ (e : EventBody) (s : State),
    let last : Event := ⟨s.nextSerial, e, false⟩
    let unpinnedAt := fun (m : BitVec 2) (x : Event) => x.pinned = false ∧ x.body.level = m
    ((∃ x ∈ s.events, x.serial = s.nextSerial) →
      offer e s = decideOffer e { s with
        events := s.events.filter (fun x => x.serial != s.nextSerial)
        lostCount := satAdd s.lostCount 1 }) ∧
    ((∀ x ∈ s.events, x.serial ≠ s.nextSerial) → offer e s = decideOffer e s) ∧
    (s.events.length < 32 →
      decideOffer e s = { s with events := s.events ++ [last], nextSerial := s.nextSerial + 1 }) ∧
    (∀ (before after : List Event) (x : Event) (m : BitVec 2), 32 ≤ s.events.length →
      s.events = before ++ x :: after → unpinnedAt m x → (∀ y ∈ after, ¬unpinnedAt m y) →
      (∀ y ∈ s.events, y.pinned = false → m ≤ y.body.level) →
      (m < e.level →
        decideOffer e s = { s with
          events := before ++ after ++ [last], nextSerial := s.nextSerial + 1
          lostCount := satAdd s.lostCount 1 }) ∧
      (e.level ≤ m → decideOffer e s = { s with lostCount := satAdd s.lostCount 1 })) ∧
    (32 ≤ s.events.length → (∀ y ∈ s.events, y.pinned = true) →
      decideOffer e s = { s with lostCount := satAdd s.lostCount 1 })

/-- R131, R132, R134: the selected events are unpinned, at most 4, as many as there are up to 4, taken by falling
level and, within a level, in arrival order; no unpinned event left behind outranks one taken. -/
def Obligations.SelectionTakesTheHighestThenTheEarliest : Prop :=
  ∀ l : List Event,
    (selected l).length = min 4 (l.filter (fun e => !e.pinned)).length ∧
      (∀ e ∈ selected l, e ∈ l ∧ e.pinned = false) ∧
      (selected l).Pairwise (fun x y => y.body.level ≤ x.body.level) ∧
      (∀ m : BitVec 2,
        (selected l).filter (fun e => e.body.level == m) <+:
          l.filter (fun e => !e.pinned && e.body.level == m)) ∧
      ∀ x ∈ l, x.pinned = false → x ∉ selected l → ∀ y ∈ selected l, x.body.level ≤ y.body.level

/-- R132, R143: ASSEMBLY. In IDLE, with an unpinned event and the collector port UP, the next serial is taken, the
selected events are pinned and fixed in the report, the lost count passes into it and the report waits; at an IDLE
transmitter with nothing waiting it is sent at once (R144): in ACK mode it awaits its acknowledgement, in NOACK mode
it is delivered (the model follows R144 here, where R150's table lets a SET_COLLECTOR taken next abandon the report:
DESIGN CHOICE, notes/assumptions/18.md). Otherwise nothing is done. -/
def Obligations.AssemblyBuildsAReport : Prop :=
  ∀ s : State,
    ((s.report.phase ≠ .idle ∨ (∀ e ∈ s.events, e.pinned = true) ∨
        ∀ t ∈ s.collector.target, (s.port t.2).up = false) → exec .assembly s = .next s) ∧
    ∀ (node : Byte) (p : Port), s.report.phase = .idle → (∃ e ∈ s.events, e.pinned = false) →
      s.collector.target = some (node, p) → (s.port p).up = true →
      let chosen := selected s.events
      let built : State := { s with
        events := s.events.map (fun e =>
          if e.pinned = false ∧ ∃ x ∈ chosen, x.serial = e.serial then { e with pinned := true } else e)
        lostCount := 0
        report := { s.report with
          phase := .queued, serial := s.report.serial + 1, captured := s.lostCount, retryCount := 0
          records := chosen.map (fun e => (e.serial, e.body)) } }
      ((s.port p).sending ≠ none → exec .assembly s = .next built) ∧
      ((s.port p).sending = none → (s.port p).queue = [] → (∀ r ∈ s.responses, r.port ≠ p) →
        let q := s.port p
        let sent : PortState :=
          { q with
            sending := some (reportFrame node built), consecutive := 0
            counters := { q.counters with localSent := satAdd q.counters.localSent 1 } }
        (s.collector.ackMode = .ack →
          exec .assembly s =
            .next (({ built with
              report := { built.report with phase := .awaitAck, retryTimer := s.collector.retryTimeout } }).setPort p
                sent)) ∧
        (s.collector.ackMode = .noAck →
          exec .assembly s =
            .next (({ built with
              events := built.events.filter (fun e => !e.pinned)
              report := { built.report with
                phase := if s.collector.pacingGap = 0 then .idle else .gap
                captured := 0, retryTimer := 0, gapTimer := s.collector.pacingGap, records := [] } }).setPort p sent)))

/-! ### The common checks (R158) and the answer (R161 to R163) -/

/-- R21, R153, R161, R162: the answer to a request: its payload echoes code and tag and carries status and data; it
waits in a slot bound to the arrival port, or is sent at once by a free transmitter with nothing waiting; and it
becomes the most recent entry of the reply cache, which keeps one entry for each source and 4 at most. R154, R155: the
status codes and the request codes. -/
def Obligations.AnswersArePlacedAndCached : Prop :=
  (∀ st : Status, statusByte st = match st with
    | .ok => 0#8
    | .badRequest => 1#8
    | .denied => 2#8
    | .notHolder => 3#8
    | .busy => 4#8
    | .outOfRange => 5#8
    | .wrongState => 6#8
    | .invalidProgram => 7#8
    | .faulted => 8#8) ∧
  (∀ c : RequestCode, codeOf (codeByte c) = some c ∧ codeByte c = match c with
    | .identify => 0x01#8
    | .claim => 0x02#8
    | .release => 0x03#8
    | .setAddress => 0x04#8
    | .setManagers => 0x05#8
    | .restart => 0x06#8
    | .setMode => 0x10#8
    | .clearFault => 0x11#8
    | .writeMatch => 0x12#8
    | .readMatch => 0x13#8
    | .stageBegin => 0x20#8
    | .stageHeader => 0x21#8
    | .stageState => 0x22#8
    | .stageTransition => 0x23#8
    | .stageCommit => 0x24#8
    | .stageAbort => 0x25#8
    | .eraseSlot => 0x26#8
    | .readSlot => 0x27#8
    | .readTransition => 0x28#8
    | .readContext => 0x30#8
    | .findContexts => 0x31#8
    | .endContext => 0x32#8
    | .readPortCounters => 0x40#8
    | .readSlotCounters => 0x41#8
    | .clearCounters => 0x42#8
    | .pollEvents => 0x50#8
    | .readAlarms => 0x51#8
    | .clearAlarms => 0x52#8
    | .setCollector => 0x60#8
    | .reportAck => 0x61#8
    | .readReportStatus => 0x62#8) ∧
  ∀ (c : RequestCode) (x : Call) (s u : State) (st : Status) (data : List Byte), (u.port x.port).up = true →
    let payload := [codeByte c, x.tag, statusByte st] ++ data
    let r : Response :=
      ⟨buildFrame x.source s.ownAddress 61#6 x.sequence payload, x.port, x.source, x.sequence, some (codeByte c),
        some x.tag⟩
    let cache := (⟨x.source, x.sequence, codeByte c, x.tag, payload⟩ ::
      u.cache.filter (fun e => e.source != x.source)).take 4
    let q := u.port x.port
    (q.sending ≠ none →
      answered c x s u st data = { u with responses := u.responses ++ [r], cache := cache }) ∧
    (q.sending = none → q.queue = [] → localEmpty x.port u = true →
      answered c x s u st data =
        ({ u with cache := cache }).setPort x.port
          { q with
            sending := some r.frame, consecutive := 0
            counters := { q.counters with localSent := satAdd q.counters.localSent 1 } })

/-- R158 check 1: with both response slots occupied every request, REPORT_ACK and IDENTIFY included, is discarded and
counted as an overrun. R158 check 2, R163: a request with the source, sequence, code and tag of a cache entry is not
carried out: nothing is done while a response to it waits, and else the stored payload is sent again. -/
def Obligations.FullSlotsAndRepeats : Prop :=
  (∀ (c : RequestCode) (x : Call) (d : Damage) (s : State), arrives x s → 2 ≤ s.responses.length →
    exec (requestInstr c x d) s = .next { s with overruns := satAdd s.overruns 1 }) ∧
  ∀ (c : RequestCode) (x : Call) (d : Damage) (s : State) (before after : List CacheEntry) (e : CacheEntry),
    arrives x s → s.responses.length < 2 → s.cache = before ++ e :: after →
    (∀ b ∈ before, b.source ≠ x.source) →
    e.source = x.source → e.sequence = x.sequence → e.code = codeByte c → e.tag = x.tag →
    let waits := ∃ r ∈ s.responses,
      r.requester = x.source ∧ r.sequence = x.sequence ∧ r.code = some (codeByte c) ∧ r.tag = some x.tag
    (waits → exec (requestInstr c x d) s = .next s) ∧
    (¬waits →
      exec (requestInstr c x d) s =
        .next (placeResponse
          ⟨buildFrame x.source s.ownAddress 61#6 x.sequence e.payload, x.port, x.source, x.sequence,
            some (codeByte c), some x.tag⟩ s))

/-- R158 checks 6 to 8: a node outside a non-empty manager list is DENIED; a request that needs the lock from another
node is answered NOT_HOLDER with the holder or 255 (after a RESTART too, where R87 and R138 show another outcome: DESIGN
CHOICE, notes/assumptions/17.md); a parameter list of a length that the request does not accept is answered
BAD_REQUEST. None of them changes anything but the response and the cache. R21, R154, R158 check 3: a payload without a
tag, or with a code that no request has, is answered BAD_REQUEST, with 00h for what it lacks; one without a tag is not
cached. R155, R158 check 8: the requests that need the lock, RELEASE among them, and the number of parameter bytes that
each request accepts. -/
def Obligations.RequestsAreRefusedInOrder : Prop :=
  (∀ c : RequestCode, authority c = .lock ↔
    c ∈ [.release, .setAddress, .setManagers, .restart, .setMode, .clearFault, .writeMatch, .stageBegin, .stageHeader,
      .stageState, .stageTransition, .stageCommit, .stageAbort, .eraseSlot, .endContext, .clearCounters, .clearAlarms,
      .setCollector]) ∧
  (∀ (c : RequestCode) (n : Nat), acceptsLength c n = true ↔ match c with
    | .identify => True
    | .claim => n = 0 ∨ n = 2
    | .release => n = 0
    | .setAddress => n = 1
    | .setManagers => n ≤ 4
    | .restart => n = 0
    | .setMode => n = 2
    | .clearFault => n = 0
    | .writeMatch => n = 11
    | .readMatch => n = 1
    | .stageBegin => n = 0
    | .stageHeader => n = 7
    | .stageState => n = 8
    | .stageTransition => n = 1 ∨ n = 14
    | .stageCommit => n = 2
    | .stageAbort => n = 0
    | .eraseSlot => n = 1
    | .readSlot => n = 2
    | .readTransition => n = 2
    | .readContext => n = 1
    | .findContexts => n = 2
    | .endContext => n = 1 ∨ n = 5
    | .readPortCounters => n = 1
    | .readSlotCounters => n = 1
    | .clearCounters => n = 1
    | .pollEvents => n = 0
    | .readAlarms => n = 0
    | .clearAlarms => n = 1
    | .setCollector => n = 9
    | .reportAck => True
    | .readReportStatus => n = 0) ∧
  (∀ (c : RequestCode) (x : Call) (d : Damage) (s : State), c ≠ .identify → c ≠ .reportAck →
    arrives x s → fresh c x s →
    (¬listAdmits x s → exec (requestInstr c x d) s = .next (answered c x s s .denied [])) ∧
    (listAdmits x s → authority c = .lock → ¬holds x s →
      exec (requestInstr c x d) s =
        .next (answered c x s s .notHolder [(s.lock.map Lease.holder).getD 255#8])) ∧
    (listAdmits x s → (authority c = .lock → holds x s) → acceptsLength c x.params.length = false →
      exec (requestInstr c x d) s = .next (answered c x s s .badRequest []))) ∧
  ∀ (r : Request) (d : Damage) (s : State), s.responses.length < 2 →
    (r.payload.length < 2 →
      takeRequest r d s =
        placeResponse
          ⟨buildFrame r.source s.ownAddress 61#6 r.sequence [r.payload.headD 0#8, 0#8, 1#8], r.port, r.source,
            r.sequence, r.payload.head?, none⟩ s) ∧
    (∀ (code tag : Byte) (params : List Byte), r.payload = code :: tag :: params →
      (∀ c : RequestCode, codeByte c ≠ code) →
      (∀ e ∈ s.cache, ¬(e.source = r.source ∧ e.sequence = r.sequence ∧ e.code = code ∧ e.tag = tag)) →
      takeRequest r d s = respond s.ownAddress r .badRequest [] s)

/-! ### Requests of the management unit (chapter 9) -/

/-- R169: IDENTIFY answers any requester with the 28 bytes of its table, whatever parameters it carries, and changes
nothing else. -/
def Obligations.IdentifyReportsThePart : Prop :=
  ∀ (x : Call) (s : State), arrives x s → fresh .identify x s →
    exec (.identify x) s =
      .next (answered .identify x s s .ok
        ([0x0C#8, 0x96#8, 0x01#8, s.ownAddress,
          (match s.mode with
            | .bypass => 0#8
            | .monitor => 1#8
            | .enforce => 2#8),
          (match s.defaultAction with
            | .pass => 0#8
            | .drop => 1#8)] ++
          (match s.faultLatch with
            | none => [0#8, 0#8, 255#8]
            | some (.matchEntry i) => [1#8, 1#8, BitVec.ofNat 8 i.val]
            | some (.program k) => [1#8, 2#8, BitVec.ofNat 8 k.val]
            | some (.context i) => [1#8, 3#8, BitVec.ofNat 8 i.val]) ++
          [(match s.resetCause with
            | .powerOn => 0#8
            | .resetLine => 1#8
            | .restart => 2#8)] ++
          (match s.lock with
            | none => [255#8, 0#8, 0#8, 0#8, 0#8]
            | some l => [l.holder] ++ bytes16 l.length ++ bytes16 l.remaining) ++
          [BitVec.ofNat 8 (min 255 s.managers.length)] ++
          (s.managers ++ [255#8, 255#8, 255#8, 255#8]).take 4 ++ bytes32 s.tick ++ bytes32 s.overruns))

/-- R165: CLAIM at a FREE lock, from the holder, and from another node; a lease length out of range is refused. -/
def Obligations.ClaimTakesAFreeLock : Prop :=
  ∀ (x : Call) (s : State), mayAsk .claim x s →
    let u := renewed x s
    let held := fun n : Word16 =>
      Host.Outcome.next (answered .claim x s { u with lock := some ⟨x.source, n, n⟩ } .ok (x.source :: bytes16 n))
    (∀ hi lo : Byte, x.params = [hi, lo] →
      let n := word16 hi lo
      (0 < n.toNat → n.toNat < 10 ∨ 60000 < n.toNat →
        exec (.claim x) s = .next (answered .claim x s u .outOfRange [])) ∧
      (s.lock = none ∨ holds x s →
        (n = 0#16 → exec (.claim x) s = held 5000#16) ∧
        (10 ≤ n.toNat → n.toNat ≤ 60000 → exec (.claim x) s = held n)) ∧
      (∀ l, s.lock = some l → l.holder ≠ x.source → n = 0#16 ∨ (10 ≤ n.toNat ∧ n.toNat ≤ 60000) →
        exec (.claim x) s = .next (answered .claim x s s .busy [l.holder]))) ∧
    (x.params = [] →
      (s.lock = none → exec (.claim x) s = held 5000#16) ∧
      ∀ l, s.lock = some l →
        (l.holder = x.source → exec (.claim x) s = held l.length) ∧
        (l.holder ≠ x.source → exec (.claim x) s = .next (answered .claim x s s .busy [l.holder])))

/-- R166: RELEASE frees the lock; an OPEN staging buffer is discarded and a PENDING one kept. R153, R157: SET_ADDRESS
answers from the old address and returns it; 255 is refused. R160: SET_MANAGERS, its three refusals in order and its
acceptance. -/
def Obligations.LockAddressAndListAreChanged : Prop :=
  (∀ (x : Call) (s : State), mayCommand .release x s → x.params = [] →
    exec (.release x) s =
      match s.staging with
      | .opened _ => .next (answered .release x s { s with lock := none, staging := .empty } .ok [1#8])
      | _ => .next (answered .release x s { s with lock := none } .ok [0#8])) ∧
  (∀ (x : Call) (a : Byte) (s : State), mayCommand .setAddress x s → x.params = [a] →
    (a = 255#8 → exec (.setAddress x) s = .next (answered .setAddress x s (renewed x s) .outOfRange [])) ∧
    (a ≠ 255#8 →
      exec (.setAddress x) s =
        .next (answered .setAddress x s { renewed x s with ownAddress := a } .ok [s.ownAddress]))) ∧
  ∀ (x : Call) (s : State), mayCommand .setManagers x s → x.params.length ≤ 4 →
    let u := renewed x s
    (255#8 ∈ x.params → exec (.setManagers x) s = .next (answered .setManagers x s u .outOfRange [])) ∧
    (255#8 ∉ x.params → ¬x.params.Nodup →
      exec (.setManagers x) s = .next (answered .setManagers x s u .badRequest [])) ∧
    (255#8 ∉ x.params → x.params.Nodup → x.params ≠ [] → x.source ∉ x.params →
      exec (.setManagers x) s = .next (answered .setManagers x s u .busy [])) ∧
    (255#8 ∉ x.params → x.params.Nodup → x.params = [] ∨ x.source ∈ x.params →
      exec (.setManagers x) s =
        .next (answered .setManagers x s { u with managers := x.params } .ok [BitVec.ofNat 8 x.params.length]))

/-- R14, R48, R83, R126, R151, R171: RESTART. The answer comes first; then the running state is cleared and the
configuration kept: each slot's RESTART ends are counted as ended otherwise, its live counts become 0, a DRAINING slot
goes back to its old program and an EMPTY slot stays EMPTY; the consecutive-transit count is kept, but becomes 0 where
the removal of the report frame empties the port's local group. At an IDLE arrival port the answer is selected before
the running state is cleared, so its count as a local frame sent is cleared too (DESIGN CHOICE,
notes/assumptions/19.md). -/
def Obligations.RestartClearsTheRunningState : Prop :=
  ∀ (x : Call) (s : State), mayCommand .restart x s → x.params = [] →
    let u := answered .restart x s (renewed x s) .ok []
    ∃ t, exec (.restart x) s = .next t ∧
      (∀ i : ContextIndex, t.context i = none) ∧
      (∀ k : SlotIndex, (t.slot k).generation = (s.slot k).generation ∧ (t.slot k).latched = false ∧
        (t.slot k).fullReported = false) ∧
      (∀ k : SlotIndex, (s.slot k).status = .empty → (t.slot k).status = .empty) ∧
      (∀ k : SlotIndex, countsSound k s → (t.slot k).contextCount = 0 ∧ (t.slot k).liveAlarms = 0) ∧
      (∀ (k : SlotIndex) (img : Image), (s.slot k).status = .active img → (t.slot k).status = .active img) ∧
      (∀ (k : SlotIndex) (img old : Image), s.staging = .pending img k → (s.slot k).status = .draining old →
        (t.slot k).status = .active old) ∧
      (∀ k : SlotIndex, (∀ i : ContextIndex, ∀ c ∈ s.context i, c.slot ≠ k) →
        (t.slot k).counters = (s.slot k).counters) ∧
      (∀ k : SlotIndex, let n := (s.slot k).counters
        (t.slot k).counters =
          { n with endedOtherwise := satAdd n.endedOtherwise (countContexts (fun c => c.slot == k) s) }) ∧
      (∀ i : EntryIndex, t.entry i = { s.entry i with hits := 0 }) ∧
      t.staging = .empty ∧ t.events = [] ∧ t.nextSerial = s.nextSerial ∧ t.lostCount = 0 ∧
      t.report.phase = (if s.collector.target = none then .off else .idle) ∧ t.report.serial = u.report.serial ∧
      t.report.captured = 0 ∧ t.report.retryCount = 0 ∧ t.report.retryTimer = 0 ∧ t.report.gapTimer = 0 ∧
      t.report.staleAcks = 0 ∧ t.report.foreignAcks = 0 ∧ t.report.records = [] ∧
      t.lock = none ∧ t.cache = [] ∧ t.overruns = 0 ∧ t.resetCause = .restart ∧
      t.responses = u.responses ∧ t.mode = s.mode ∧ t.defaultAction = s.defaultAction ∧ t.faultLatch = s.faultLatch ∧
      t.collector = s.collector ∧ t.ownAddress = s.ownAddress ∧ t.managers = s.managers ∧ t.tick = s.tick ∧
      t.managementTickOwed = s.managementTickOwed ∧ t.reportTickOwed = s.reportTickOwed ∧
      t.resetHeld = s.resetHeld ∧ t.pending = s.pending ∧
      ∀ p : Port, (t.port p).up = (s.port p).up ∧ (t.port p).receiving = (s.port p).receiving ∧
        (t.port p).queue = (u.port p).queue ∧ (t.port p).sending = (u.port p).sending ∧
        (t.port p).counters = ⟨0, 0, 0, 0, 0, 0, 0, 0, 0, 0, 0⟩ ∧
        (t.port p).consecutive =
          if u.report.phase = .queued ∧ s.collector.target.map Prod.snd = some p ∧ ∀ r ∈ u.responses, r.port ≠ p then 0
          else (u.port p).consecutive

/-! ### Requests of the classifier (chapter 2) -/

/-- R31, R32, R39: SET_MODE. -/
def Obligations.SetModeChangesTheMode : Prop :=
  ∀ (x : Call) (m a : Byte) (s : State), mayCommand .setMode x s → x.params = [m, a] →
    let u := renewed x s
    let was : Byte := match s.mode with
      | .bypass => 0#8
      | .monitor => 1#8
      | .enforce => 2#8
    (2 < m.toNat ∨ 1 < a.toNat → exec (.setMode x) s = .next (answered .setMode x s u .outOfRange [])) ∧
    (m = 1#8 ∨ m = 2#8 → a.toNat ≤ 1 → s.faultLatch ≠ none →
      exec (.setMode x) s = .next (answered .setMode x s u .faulted [])) ∧
    ∀ (mode : Mode) (action : Verdict),
      m = (match mode with
        | .bypass => 0#8
        | .monitor => 1#8
        | .enforce => 2#8) →
      a = (match action with
        | .pass => 0#8
        | .drop => 1#8) →
      mode = .bypass ∨ s.faultLatch = none →
      let v : State := { u with defaultAction := action }
      (mode = s.mode → exec (.setMode x) s = .next (answered .setMode x s v .ok [was, 0#8])) ∧
      (mode ≠ s.mode → mode ≠ .bypass →
        exec (.setMode x) s =
          .next (answered .setMode x s
            (offer ⟨.modeChanged, 1#2, m, none, none, none, none, none, 0#8⟩ { v with mode := mode }) .ok [was, 0#8])) ∧
      (mode ≠ s.mode → mode = .bypass →
        let e := endContexts (fun _ => true) .mode { v with mode := .bypass }
        let n := BitVec.ofNat 8 (min 255 (countContexts (fun _ => true) s))
        exec (.setMode x) s =
          .next (answered .setMode x s
            (offer ⟨.modeChanged, 1#2, 0#8, none, none, none, none, none, n⟩ (offerAll e.events e.state)) .ok [was, n]))

/-- R40: CLEAR_FAULT. -/
def Obligations.ClearFaultClearsTheLatch : Prop :=
  ∀ (x : Call) (s : State), mayCommand .clearFault x s → x.params = [] →
    exec (.clearFault x) s =
      .next (answered .clearFault x s { renewed x s with faultLatch := none } .ok
        [if s.faultLatch = none then 0#8 else 1#8])

/-- R21: fields of two and four bytes, most significant byte first. R41, R42: the layout of READ_MATCH's data; the
parameters of WRITE_MATCH that spell an entry, hit counter 0, where ANY goes with any node byte and PASS and DROP go
with any slot byte, since these are not stored; every other list of eleven is refused, and those are the lists with a
value out of range. What READ_MATCH returns for an entry, after its index, spells that entry. R49, R63, R64, R175:
every part of an image, sent as the reads send it, is read back by the staging requests as it was. R140, R141: the
settings that the parameters of SET_COLLECTOR spell, where the form none goes with any node and port byte; every other
list of nine is refused, and those are the lists with a value out of range. -/
def Obligations.SettingsAreReadBack : Prop :=
  (∀ (x : Word16) (y : Word32) (hi lo : Byte),
    bytes16 x = [BitVec.ofNat 8 (x.toNat / 256), BitVec.ofNat 8 x.toNat] ∧
      (word16 hi lo).toNat = 256 * hi.toNat + lo.toNat ∧
      bytes32 y = [BitVec.ofNat 8 (y.toNat / 16777216), BitVec.ofNat 8 (y.toNat / 65536),
        BitVec.ofNat 8 (y.toNat / 256), BitVec.ofNat 8 y.toNat]) ∧
  (∀ e : MatchEntry,
    entryBytes e =
      [if e.valid then 1#8 else 0#8,
        match e.ports with
          | .a => 0#8
          | .b => 1#8
          | .both => 2#8,
        if e.source = none then 1#8 else 0#8, e.source.getD 0#8,
        if e.dest = none then 1#8 else 0#8, e.dest.getD 0#8,
        BitVec.ofNat 8 e.kindLow.toNat, BitVec.ofNat 8 e.kindHigh.toNat,
        match e.action with
          | .pass => 0#8
          | .drop => 1#8
          | .watch _ => 2#8,
        match e.action with
          | .watch k => BitVec.ofNat 8 k.val
          | _ => 0#8] ++ bytes32 e.hits) ∧
  (∀ index valid ports sourceForm sourceNode destForm destNode low high action slot : Byte,
    let list := [index, valid, ports, sourceForm, sourceNode, destForm, destNode, low, high, action, slot]
    let spells := fun (form node : Byte) (n : Option Byte) => match n with
      | none => form = 1#8
      | some b => form = 0#8 ∧ node = b
    (∀ (i : EntryIndex) (e : MatchEntry), parseEntry list = some (i, e) ↔
      index.toNat = i.val ∧ (valid = if e.valid then 1#8 else 0#8) ∧
        (ports = match e.ports with
          | .a => 0#8
          | .b => 1#8
          | .both => 2#8) ∧
        spells sourceForm sourceNode e.source ∧ e.source ≠ some 255#8 ∧ spells destForm destNode e.dest ∧
        low.toNat = e.kindLow.toNat ∧ high.toNat = e.kindHigh.toNat ∧ e.kindLow ≤ e.kindHigh ∧
        (match e.action with
          | .pass => action = 0#8
          | .drop => action = 1#8
          | .watch k => action = 2#8 ∧ slot.toNat = k.val) ∧ e.hits = 0) ∧
    (parseEntry list = none ↔
      47 < index.toNat ∨ 1 < valid.toNat ∨ 2 < ports.toNat ∨ 1 < sourceForm.toNat ∨
        (sourceForm = 0#8 ∧ sourceNode = 255#8) ∨ 1 < destForm.toNat ∨ 63 < low.toNat ∨ 63 < high.toNat ∨
        high < low ∨ 2 < action.toNat ∨ (action = 2#8 ∧ 7 < slot.toNat))) ∧
  (∀ (i : EntryIndex) (e : MatchEntry), e.kindLow ≤ e.kindHigh → e.source ≠ some 255#8 →
    parseEntry (BitVec.ofNat 8 i.val :: (entryBytes e).take 10) = some (i, { e with hits := 0 }) ∧
      (entryBytes e).drop 10 = bytes32 e.hits ∧ (entryBytes e).length = 14) ∧
  ((∀ h : Header, parseHeader (headerBytes h) = some h) ∧
    (∀ (t : StateIndex) (r : StateRecord), parseState (stateBytes t r) = some (t, r)) ∧
    ∀ (p : Position) (t : Transition), parseTransition (BitVec.ofNat 8 p.val :: transitionBytes t) = some (p, t)) ∧
  ∀ form node port mode timeoutHi timeoutLo limit gapHi gapLo : Byte,
    let list := [form, node, port, mode, timeoutHi, timeoutLo, limit, gapHi, gapLo]
    let timeout := word16 timeoutHi timeoutLo
    let gap := word16 gapHi gapLo
    let inRange := 10 ≤ timeout.toNat ∧ timeout.toNat ≤ 1000 ∧ gap.toNat ≤ 1000
    (∀ c : Collector, parseCollector list = some c ↔
      (match c.target with
        | none => form = 1#8
        | some (n, p) => form = 0#8 ∧ node = n ∧ n ≠ 255#8 ∧ port = (match p with
            | .a => 0#8
            | .b => 1#8)) ∧
        (mode = match c.ackMode with
          | .ack => 0#8
          | .noAck => 1#8) ∧
        c.retryTimeout = timeout ∧ limit.toNat = c.retryLimit.toNat ∧ c.pacingGap = gap ∧ inRange) ∧
    (parseCollector list = none ↔
      1 < form.toNat ∨ (form = 0#8 ∧ (node = 255#8 ∨ 1 < port.toNat)) ∨ 1 < mode.toNat ∨ 7 < limit.toNat ∨ ¬inRange)

/-- R41: WRITE_MATCH replaces one entry; a list of values out of range changes nothing. R37, R42: READ_MATCH returns
the entry as it stands, after a fault with its cleared values. -/
def Obligations.MatchEntriesAreWrittenAndRead : Prop :=
  (∀ (x : Call) (s : State), mayCommand .writeMatch x s → x.params.length = 11 →
    (∀ (i : EntryIndex) (e : MatchEntry), parseEntry x.params = some (i, e) →
      exec (.writeMatch x) s = .next (answered .writeMatch x s ((renewed x s).setEntry i e) .ok [])) ∧
    (parseEntry x.params = none →
      exec (.writeMatch x) s = .next (answered .writeMatch x s (renewed x s) .outOfRange []))) ∧
  ∀ (x : Call) (i : Byte) (d : Damage) (s : State), mayAsk .readMatch x s → x.params = [i] →
    (48 ≤ i.toNat → exec (.readMatch x d) s = .next (answered .readMatch x s (renewed x s) .outOfRange [])) ∧
    ∀ h : i.toNat < 48,
      let n : EntryIndex := ⟨i.toNat, h⟩
      let u := afterRead true (.matchEntry n) d (renewed x s)
      exec (.readMatch x d) s = .next (answered .readMatch x s u .ok (entryBytes (u.entry n)))

/-! ### Requests of the program store and the staging buffer (chapters 3 and 10) -/

/-- R174: STAGE_BEGIN. R44, R179: STAGE_ABORT. -/
def Obligations.StagingOpensAndAborts : Prop :=
  (∀ (x : Call) (s : State), mayCommand .stageBegin x s → x.params = [] →
    let u := renewed x s
    let image : Image :=
      ⟨⟨0, false, .pass, ⟨.stay, .pass, none⟩⟩, Vector.replicate 16 ⟨0#16, .state 0, none, false, 0#4⟩,
        Vector.replicate 48 none⟩
    exec (.stageBegin x) s =
      match s.staging with
      | .empty => .next (answered .stageBegin x s { u with staging := .opened image } .ok [0#8])
      | .opened _ => .next (answered .stageBegin x s { u with staging := .opened image } .ok [1#8])
      | .pending _ _ => .next (answered .stageBegin x s u .busy [])) ∧
  ∀ (x : Call) (s : State), mayCommand .stageAbort x s → x.params = [] →
    let u := renewed x s
    (s.staging = .empty → exec (.stageAbort x) s = .next (answered .stageAbort x s u .wrongState [])) ∧
    (∀ image, s.staging = .opened image →
      exec (.stageAbort x) s = .next (answered .stageAbort x s { u with staging := .empty } .ok [1#8])) ∧
    ∀ (image old : Image) (k : SlotIndex), s.staging = .pending image k → (s.slot k).status = .draining old →
      exec (.stageAbort x) s =
        .next (answered .stageAbort x s
          (({ u with staging := .empty }).modifySlot k (fun y => { y with status := .active old })) .ok [2#8])

/-- R175: STAGE_HEADER, STAGE_STATE and STAGE_TRANSITION. Values out of range are refused first; then a buffer that is
not OPEN; else one part of the image is replaced. -/
def Obligations.StageWritesReplaceOnePart : Prop :=
  ∀ (x : Call) (s : State),
    let u := renewed x s
    let result := fun (c : RequestCode) (part : Option (Image → Image)) =>
      match part, s.staging with
      | none, _ => Host.Outcome.next (φ := Fault) (ρ := Refusal) (answered c x s u .outOfRange [])
      | some f, .opened image => .next (answered c x s { u with staging := .opened (f image) } .ok [])
      | some _, _ => .next (answered c x s u .wrongState [])
    (mayCommand .stageHeader x s → x.params.length = 7 →
      exec (.stageHeader x) s =
        result .stageHeader ((parseHeader x.params).map (fun h image => { image with header := h }))) ∧
    (mayCommand .stageState x s → x.params.length = 8 →
      exec (.stageState x) s =
        result .stageState ((parseState x.params).map (fun r image =>
          { image with states := image.states.set r.1 r.2 }))) ∧
    (mayCommand .stageTransition x s → x.params.length = 14 →
      exec (.stageTransition x) s =
        result .stageTransition ((parseTransition x.params).map (fun r image =>
          { image with positions := image.positions.set r.1 (some r.2) }))) ∧
    (mayCommand .stageTransition x s → ∀ b : Byte, x.params = [b] →
      (48 ≤ b.toNat → exec (.stageTransition x) s = result .stageTransition none) ∧
      ∀ p : Position, b = BitVec.ofNat 8 p.val →
        exec (.stageTransition x) s =
          result .stageTransition (some (fun image => { image with positions := image.positions.set p none })))

/-- R44, R176 to R178: STAGE_COMMIT: its refusals in order; an install at once, ending the slot's contexts with one
SUPERSEDED event; or a drain, which leaves the old program in force. -/
def Obligations.CommitInstallsOrDrains : Prop :=
  ∀ (x : Call) (slot mode : Byte) (s : State), mayCommand .stageCommit x s → x.params = [slot, mode] →
    let u := renewed x s
    (8 ≤ slot.toNat ∨ 1 < mode.toNat →
      exec (.stageCommit x) s = .next (answered .stageCommit x s u .outOfRange [])) ∧
    (slot.toNat < 8 → mode.toNat ≤ 1 → (∀ image, s.staging ≠ .opened image) →
      exec (.stageCommit x) s = .next (answered .stageCommit x s u .wrongState [])) ∧
    ∀ (k : SlotIndex) (image : Image), slot = BitVec.ofNat 8 k.val → mode.toNat ≤ 1 → s.staging = .opened image →
      (∀ failure, validate image = some failure →
        exec (.stageCommit x) s = .next (answered .stageCommit x s u .invalidProgram (failureBytes failure))) ∧
      (validate image = none →
        (∀ old, mode = 1#8 → (s.slot k).status = .active old → (s.slot k).contextCount ≠ 0 →
          let v := ({ u with staging := .pending image k }).modifySlot k (fun y => { y with status := .draining old })
          exec (.stageCommit x) s =
            .next (answered .stageCommit x s v .ok
              [2#8, (s.slot k).generation, BitVec.ofNat 8 (min 255 (s.slot k).contextCount)])) ∧
        (mode = 0#8 ∨ (s.slot k).status = .empty ∨ (s.slot k).contextCount = 0 →
          let e := endContexts (fun c => c.slot == k) .superseded u
          let n := BitVec.ofNat 8 (min 255 (countContexts (fun c => c.slot == k) s))
          let told := offerAll e.events e.state
          let told := if countContexts (fun c => c.slot == k) s = 0 then told
            else offer ⟨.superseded, 1#2, 0#8, some k, none, none, none, none, n⟩ told
          let v : State := { install k image told with staging := .empty }
          exec (.stageCommit x) s =
            .next (answered .stageCommit x s v .ok [1#8, (v.slot k).generation, n])))

/-- R44, R47, R180: ERASE_SLOT. -/
def Obligations.EraseEmptiesAnActiveSlot : Prop :=
  ∀ (x : Call) (slot : Byte) (s : State), mayCommand .eraseSlot x s → x.params = [slot] →
    let u := renewed x s
    (8 ≤ slot.toNat → exec (.eraseSlot x) s = .next (answered .eraseSlot x s u .outOfRange [])) ∧
    ∀ k : SlotIndex, slot = BitVec.ofNat 8 k.val →
      ((s.slot k).status = .empty → exec (.eraseSlot x) s = .next (answered .eraseSlot x s u .ok [0#8, 0#8])) ∧
      (∀ image, (s.slot k).status = .draining image →
        exec (.eraseSlot x) s = .next (answered .eraseSlot x s u .busy [])) ∧
      ∀ image, (s.slot k).status = .active image →
        let e := endContexts (fun c => c.slot == k) .erased u
        exec (.eraseSlot x) s =
          .next (answered .eraseSlot x s
            (e.state.modifySlot k (fun y =>
              { y with
                status := .empty, counters := ⟨0, 0, 0, 0, 0, 0, 0, 0⟩, latched := false, fullReported := false })) .ok
            [1#8, BitVec.ofNat 8 (min 255 (countContexts (fun c => c.slot == k) s))])

/-- R37, R63: READ_SLOT. R37, R64: READ_TRANSITION; that a position above 47 at an EMPTY slot is OUT_OF_RANGE is the
model's choice (DESIGN CHOICE, notes/assumptions/15.md). R37, R84, R123: READ_CONTEXT. -/
def Obligations.ReadsReturnSlotsAndContexts : Prop :=
  (∀ (x : Call) (slot index : Byte) (d : Damage) (s : State), mayAsk .readSlot x s → x.params = [slot, index] →
    (8 ≤ slot.toNat ∨ 16 ≤ index.toNat →
      exec (.readSlot x d) s = .next (answered .readSlot x s (renewed x s) .outOfRange [])) ∧
    ∀ (k : SlotIndex) (t : StateIndex), slot = BitVec.ofNat 8 k.val → index = BitVec.ofNat 8 t.val →
      let u := afterRead (s.slot k).status.image.isSome (.program k) d (renewed x s)
      let y := u.slot k
      exec (.readSlot x d) s =
        .next (answered .readSlot x s u .ok
          ([(match y.status with
              | .empty => 0#8
              | .active _ => 1#8
              | .draining _ => 2#8), y.generation, BitVec.ofNat 8 (min 255 y.contextCount),
            BitVec.ofNat 8 (min 255 y.liveAlarms), if y.latched then 1#8 else 0#8,
            if y.fullReported then 1#8 else 0#8] ++
            (match y.status.image with
              | none => []
              | some image =>
                headerBytes image.header ++
                  (if t.val < image.header.stateCount.val then stateBytes t (image.state t) else []))))) ∧
  (∀ (x : Call) (slot position : Byte) (d : Damage) (s : State),
    mayAsk .readTransition x s → x.params = [slot, position] →
    (8 ≤ slot.toNat ∨ 48 ≤ position.toNat →
      exec (.readTransition x d) s = .next (answered .readTransition x s (renewed x s) .outOfRange [])) ∧
    ∀ (k : SlotIndex) (p : Position), slot = BitVec.ofNat 8 k.val → position = BitVec.ofNat 8 p.val →
      let u := afterRead (s.slot k).status.image.isSome (.program k) d (renewed x s)
      let y := u.slot k
      (y.status = .empty → exec (.readTransition x d) s = .next (answered .readTransition x s u .wrongState [])) ∧
      ∀ image, y.status.image = some image →
        exec (.readTransition x d) s =
          .next (answered .readTransition x s u .ok
            ([(match y.status with
                | .draining _ => 2#8
                | _ => 1#8), y.generation, position] ++
              (match image.positions[p] with
                | none => [0#8]
                | some t => 1#8 :: transitionBytes t)))) ∧
  ∀ (x : Call) (index : Byte) (d : Damage) (s : State), mayAsk .readContext x s → x.params = [index] →
    (96 ≤ index.toNat → exec (.readContext x d) s = .next (answered .readContext x s (renewed x s) .outOfRange [])) ∧
    ∀ i : ContextIndex, index = BitVec.ofNat 8 i.val →
      let u := afterRead (s.context i).isSome (.context i) d (renewed x s)
      exec (.readContext x d) s =
        .next (answered .readContext x s u .ok
          (match u.context i with
            | none => [index, 0#8]
            | some c =>
              [index, 1#8, BitVec.ofNat 8 c.slot.val, c.generation, c.initiator, c.responder,
                BitVec.ofNat 8 c.state.val] ++
                bytes16 ((c.deadline - u.tick).setWidth 16) ++ [c.lastSequence.setWidth 8, c.retryCount.setWidth 8] ++
                bytes16 c.framesTaken ++ bytes32 c.createdTick ++ bytes32 c.deadline))

/-! ### Requests of the watch engine (chapter 4) -/

/-- R85: FIND_CONTEXTS lists the contexts in use that the selector admits, from the start index upward, 20 at most,
and says whether more follow; a damaged context that the scan passes is taken as a fault first (R34, R37). -/
def Obligations.FindContextsListsTwenty : Prop :=
  ∀ (x : Call) (selector start : Byte) (d : Damage) (s : State),
    mayAsk .findContexts x s → x.params = [selector, start] →
    ((8 ≤ selector.toNat ∧ selector ≠ 255#8) ∨ 96 ≤ start.toNat →
      exec (.findContexts x d) s = .next (answered .findContexts x s (renewed x s) .outOfRange [])) ∧
    (selector.toNat < 8 ∨ selector = 255#8 → start.toNat < 96 →
      let found := fun (t : State) => contextIndices.filter (fun i =>
        decide (start.toNat ≤ i.val) &&
          (t.context i).any (fun c => decide (selector = 255#8 ∨ c.slot.val = selector.toNat)))
      let data := fun (t : State) =>
        [BitVec.ofNat 8 (min 20 (found t).length), if 20 < (found t).length then 1#8 else 0#8] ++
          ((found t).take 20).map (fun i => BitVec.ofNat 8 i.val)
      let u := renewed x s
      let passed := fun i : ContextIndex =>
        start.toNat ≤ i.val ∧ (s.context i).isSome = true ∧
          ((found s).length < 20 ∨ ∃ j ∈ (found s).take 20, i ≤ j)
      ((∀ i, d = some (.context i) → ¬passed i) →
        exec (.findContexts x d) s = .next (answered .findContexts x s u .ok (data u))) ∧
      ∀ i, d = some (.context i) → passed i →
        let v := integrityFault (.context i) u
        exec (.findContexts x d) s = .next (answered .findContexts x s v .ok (data v)))

/-- R37, R79, R86: END_CONTEXT, in its plain and its guarded form. -/
def Obligations.EndContextForcesAnEnd : Prop :=
  ∀ (x : Call) (d : Damage) (s : State), mayCommand .endContext x s →
    let u := renewed x s
    (∀ b : Byte, x.params = [b] → 96 ≤ b.toNat →
      exec (.endContext x d) s = .next (answered .endContext x s u .outOfRange [])) ∧
    (∀ b k g m n : Byte, x.params = [b, k, g, m, n] → 96 ≤ b.toNat ∨ 8 ≤ k.toNat ∨ m = 255#8 ∨ n = 255#8 →
      exec (.endContext x d) s = .next (answered .endContext x s u .outOfRange [])) ∧
    ∀ (i : ContextIndex) (guard : Option (SlotIndex × Byte × Byte × Byte)),
      (match guard with
        | none => x.params = [BitVec.ofNat 8 i.val]
        | some (k, g, m, n) =>
          x.params = [BitVec.ofNat 8 i.val, BitVec.ofNat 8 k.val, g, m, n] ∧ m ≠ 255#8 ∧ n ≠ 255#8) →
      (s.context i = none → exec (.endContext x d) s = .next (answered .endContext x s u .wrongState [0#8])) ∧
      ∀ c : Context, s.context i = some c →
        (d = some (.context i) →
          exec (.endContext x d) s =
            .next (answered .endContext x s (integrityFault (.context i) u) .wrongState [0#8])) ∧
        (d ≠ some (.context i) → (∃ e ∈ guard, e ≠ (c.slot, c.generation, c.initiator, c.responder)) →
          exec (.endContext x d) s = .next (answered .endContext x s u .wrongState [1#8])) ∧
        (d ≠ some (.context i) → (∀ e ∈ guard, e = (c.slot, c.generation, c.initiator, c.responder)) →
          let e := endContext i .forced u
          let v := offerAll e.2 e.1
          exec (.endContext x d) s =
            .next (answered .endContext x s v .ok
              [BitVec.ofNat 8 c.slot.val, c.generation, c.initiator, c.responder, BitVec.ofNat 8 c.state.val,
                match (v.slot c.slot).status with
                | .empty => 0#8
                | .active _ => 1#8
                | .draining _ => 2#8]))

/-! ### Requests of the ports, and slot counters (chapters 1 and 3) -/

/-- R19, R65: READ_PORT_COUNTERS and READ_SLOT_COUNTERS. R20: CLEAR_COUNTERS. -/
def Obligations.CountersAreReadAndCleared : Prop :=
  (∀ (x : Call) (b : Byte) (s : State), x.params = [b] →
    let u := renewed x s
    (mayAsk .readPortCounters x s →
      (1 < b.toNat → exec (.readPortCounters x) s = .next (answered .readPortCounters x s u .outOfRange [])) ∧
      ∀ p : Port, b = (match p with
          | .a => 0#8
          | .b => 1#8) →
        let n := (s.port p).counters
        exec (.readPortCounters x) s =
          .next (answered .readPortCounters x s u .ok
            ((if (s.port p).up then 1#8 else 0#8) ::
              (bytes32 n.goodFrames ++ bytes32 n.checkErrors ++ bytes32 n.malformed ++ bytes32 n.takenLocally ++
                bytes32 n.verdictDrops ++ bytes32 n.wouldDrops ++ bytes32 n.congestionDiscards ++
                bytes32 n.linkDownDiscards ++ bytes32 n.transitSent ++ bytes32 n.localSent ++
                bytes32 n.linkDownFlushes)))) ∧
    (mayAsk .readSlotCounters x s →
      (8 ≤ b.toNat → exec (.readSlotCounters x) s = .next (answered .readSlotCounters x s u .outOfRange [])) ∧
      ∀ k : SlotIndex, b = BitVec.ofNat 8 k.val →
        let n := (s.slot k).counters
        exec (.readSlotCounters x) s =
          .next (answered .readSlotCounters x s u .ok
            ([(match (s.slot k).status with
                | .empty => 0#8
                | .active _ => 1#8
                | .draining _ => 2#8), (s.slot k).generation] ++
              (bytes32 n.created ++ bytes32 n.endedByEnd ++ bytes32 n.endedByTimeout ++ bytes32 n.endedOtherwise ++
                bytes32 n.unanchored ++ bytes32 n.overflowRefusals ++ bytes32 n.unexpected ++
                bytes32 n.retryLimitHits))))) ∧
  ∀ (x : Call) (b : Byte) (s : State), mayCommand .clearCounters x s → x.params = [b] →
    let u := renewed x s
    let zero : PortCounters := ⟨0, 0, 0, 0, 0, 0, 0, 0, 0, 0, 0⟩
    let none : SlotCounters := ⟨0, 0, 0, 0, 0, 0, 0, 0⟩
    let cleared := fun v : State => exec (.clearCounters x) s = .next (answered .clearCounters x s v .ok [])
    (b = 0x00#8 → cleared { u with portA := { s.portA with counters := zero } }) ∧
    (b = 0x01#8 → cleared { u with portB := { s.portB with counters := zero } }) ∧
    (∀ k : SlotIndex, b = BitVec.ofNat 8 (16 + k.val) →
      cleared (u.modifySlot k (fun y => { y with counters := none }))) ∧
    (b = 0xFF#8 →
      cleared { u with
        portA := { s.portA with counters := zero }, portB := { s.portB with counters := zero }
        slots := Vector.ofFn (fun k => { s.slots[k] with counters := none })
        entries := Vector.ofFn (fun i => { s.entries[i] with hits := 0 }) }) ∧
    ((1 < b.toNat ∧ b.toNat < 16) ∨ (23 < b.toNat ∧ b.toNat < 255) →
      exec (.clearCounters x) s = .next (answered .clearCounters x s u .outOfRange []))

/-! ### Requests of the event block and the report unit (chapters 7 and 8) -/

/-- R134: POLL_EVENTS takes the selected events and the lost count, while no collector is set. R136, R137: READ_ALARMS
returns three bytes for each slot; CLEAR_ALARMS clears the latches that its mask names and returns those that were
set. -/
def Obligations.EventsAndAlarmsAreRead : Prop :=
  (∀ (x : Call) (s : State), mayAsk .pollEvents x s → x.params = [] →
    let u := renewed x s
    (s.collector.target ≠ none → exec (.pollEvents x) s = .next (answered .pollEvents x s u .wrongState [])) ∧
    (s.collector.target = none →
      let chosen := selected s.events
      exec (.pollEvents x) s =
        .next (answered .pollEvents x s
          { u with
            events := s.events.filter (fun e => e.pinned || !chosen.any (fun y => y.serial == e.serial))
            lostCount := 0 } .ok
          ([BitVec.ofNat 8 chosen.length, s.lostCount] ++ chosen.flatMap (fun e => recordBytes e.serial e.body))))) ∧
  ∀ (x : Call) (s : State),
    let u := renewed x s
    (mayAsk .readAlarms x s → x.params = [] →
      exec (.readAlarms x) s =
        .next (answered .readAlarms x s u .ok
          ((List.finRange 8).flatMap (fun k : SlotIndex =>
            [BitVec.ofNat 8 (min 255 (s.slot k).contextCount), BitVec.ofNat 8 (min 255 (s.slot k).liveAlarms),
              if (s.slot k).latched then 1#8 else 0#8])))) ∧
    (mayCommand .clearAlarms x s → ∀ mask : Byte, x.params = [mask] →
      ∃ was : Byte,
        (∀ k : SlotIndex, was.getLsbD k.val = (mask.getLsbD k.val && (s.slot k).latched)) ∧
        exec (.clearAlarms x) s =
          .next (answered .clearAlarms x s
            { u with
              slots := Vector.ofFn (fun k : Fin 8 =>
                { s.slots[k] with latched := s.slots[k].latched && !mask.getLsbD k.val }) } .ok [was]))

/-- R133, R141: SET_COLLECTOR abandons the current report, stops the timers, stores the settings and restarts the
unit. -/
def Obligations.SetCollectorRestartsTheUnit : Prop :=
  ∀ (x : Call) (s : State), mayCommand .setCollector x s → x.params.length = 9 →
    let u := renewed x s
    (parseCollector x.params = none →
      exec (.setCollector x) s = .next (answered .setCollector x s u .outOfRange [])) ∧
    ∀ c : Collector, parseCollector x.params = some c →
      let current : Prop := s.report.phase = .queued ∨ s.report.phase = .awaitAck
      let state : Byte := match s.report.phase with
        | .off => 0#8
        | .idle => 1#8
        | .queued => 2#8
        | .awaitAck => 3#8
        | .gap => 4#8
      ∃ v, exec (.setCollector x) s =
          .next (answered .setCollector x s v .ok
            [state, if current then BitVec.ofNat 8 (min 255 (pinnedCount s.events)) else 0#8]) ∧
        v.collector = c ∧
        v.report = { s.report with
          phase := if c.target = none then .off else .idle
          captured := 0, retryCount := 0, retryTimer := 0, gapTimer := 0, records := [] } ∧
        (current → v.events = s.events.map (fun e => { e with pinned := false }) ∧
          v.lostCount = satAdd s.lostCount s.report.captured.toNat) ∧
        (¬current → v.events = s.events ∧ v.lostCount = s.lostCount) ∧
        (∀ p : Port, v.port p =
          if s.report.phase = .queued ∧ s.collector.target.map Prod.snd = some p ∧ ∀ r ∈ s.responses, r.port ≠ p then
            { s.port p with consecutive := 0 }
          else s.port p) ∧
        { v with
          collector := s.collector, report := s.report, events := s.events, lostCount := s.lostCount
          portA := s.portA, portB := s.portB } = u

/-- R133, R148, R158 check 4: REPORT_ACK is judged by the report unit, whatever the manager list and the lock, and
draws no response: foreign from another node than the collector, a delivery for the serial awaited, stale otherwise.
With both response slots occupied it never reaches the unit. -/
def Obligations.ReportAckIsJudgedByTheUnit : Prop :=
  ∀ (x : Call) (s : State), arrives x s →
    let r := s.report
    (2 ≤ s.responses.length → exec (.reportAck x) s = .next { s with overruns := satAdd s.overruns 1 }) ∧
    (fresh .reportAck x s → s.collector.target.map Prod.fst ≠ some x.source →
      exec (.reportAck x) s = .next { s with report := { r with foreignAcks := satAdd r.foreignAcks 1 } }) ∧
    (fresh .reportAck x s → s.collector.target.map Prod.fst = some x.source →
      (r.phase = .awaitAck → x.params = bytes16 r.serial →
        exec (.reportAck x) s =
          .next { s with
            events := s.events.filter (fun e => !e.pinned)
            report := { r with
              phase := if s.collector.pacingGap = 0 then .idle else .gap
              captured := 0, retryCount := 0, retryTimer := 0, gapTimer := s.collector.pacingGap, records := [] } }) ∧
      (r.phase ≠ .awaitAck ∨ x.params ≠ bytes16 r.serial →
        exec (.reportAck x) s = .next { s with report := { r with staleAcks := satAdd r.staleAcks 1 } }))

/-- R152: READ_REPORT_STATUS. -/
def Obligations.ReportStatusReturnsTheUnit : Prop :=
  ∀ (x : Call) (s : State), mayAsk .readReportStatus x s → x.params = [] →
    let r := s.report
    let c := s.collector
    exec (.readReportStatus x) s =
      .next (answered .readReportStatus x s (renewed x s) .ok
        ([(match r.phase with
            | .off => 0#8
            | .idle => 1#8
            | .queued => 2#8
            | .awaitAck => 3#8
            | .gap => 4#8)] ++ bytes16 r.serial ++ [r.retryCount.setWidth 8] ++
          bytes16 (if r.phase = .awaitAck then r.retryTimer else if r.phase = .gap then r.gapTimer else 0) ++
          [r.captured, BitVec.ofNat 8 (min 255 s.events.length), BitVec.ofNat 8 (min 255 (pinnedCount s.events)),
            s.lostCount] ++ bytes32 r.staleAcks ++ bytes32 r.foreignAcks ++
          (match c.target with
            | none => [255#8, 255#8]
            | some (n, .a) => [n, 0#8]
            | some (n, .b) => [n, 1#8]) ++
          [(match c.ackMode with
            | .ack => 0#8
            | .noAck => 1#8)] ++ bytes16 c.retryTimeout ++ [c.retryLimit.setWidth 8] ++ bytes16 c.pacingGap))

/-! ### The laws that every step keeps -/

/-- Every law of Safety.lean holds right after reset. -/
def Obligations.ResetStateIsSound : Prop := Sound State.reset

/-- R8 to R10, R13, R14, R161: the laws of the ports. -/
def Obligations.EveryStepKeepsThePortsSound : Prop :=
  ∀ s t : State, portsSound s → step s = .next t → portsSound t

/-- R32, R36: in BYPASS no context is in use, and while the fault latch is set the mode is BYPASS. R23: a match
entry's kinds stay a range. -/
def Obligations.EveryStepKeepsTheClassifierSound : Prop :=
  (∀ s t : State, modeSound s → step s = .next t → modeSound t) ∧
  ∀ s t : State, entriesSound s → step s = .next t → entriesSound t

/-- R44, R46, R50, R66, R68, R69, R77, R78, R123, R173: the laws of the dialogues. -/
def Obligations.EveryStepKeepsTheDialoguesSound : Prop :=
  ∀ s t : State, dialoguesSound s → step s = .next t → dialoguesSound t

/-- R126, R127, R140, R142: the laws of event delivery. -/
def Obligations.EveryStepKeepsTheDeliverySound : Prop :=
  ∀ s t : State, deliverySound s → step s = .next t → deliverySound t

/-- R156, R159 to R162, R164, R173: the laws of the management unit and of the OPEN staging buffer. -/
def Obligations.EveryStepKeepsTheAuthoritySound : Prop :=
  ∀ s t : State, authoritySound s → step s = .next t → authoritySound t

/-! ### The parts of an image in their bytes (chapters 3 and 10) -/

/-- R49, R63, R64: the layout of a header, a state record and a transition in the data of the reads. R175: the
parameters that STAGE_HEADER, STAGE_STATE and STAGE_TRANSITION read as each of them, where an event level FFh goes
with any code byte and an absent payload test with any offset, mask and value byte, since these are not stored; every
other list of that length is refused, and those are the lists with a value out of range. -/
def Obligations.ImagePartsAreReadFromTheirBytes : Prop :=
  let verdictOf := fun v : Verdict => match v with
    | .pass => 0#8
    | .drop => 1#8
  let targetOf := fun g : Target => match g with
    | .state t => BitVec.ofNat 8 t.val
    | .finish => 0x10#8
  let unexpectedOf := fun u : UnexpectedTarget => match u with
    | .stay => 0x11#8
    | .move g => targetOf g
  let levelOf := fun e : Option EventSetting => match e with
    | none => 0xFF#8
    | some x => BitVec.ofNat 8 x.level.toNat
  let eventCodeOf := fun e : Option EventSetting => match e with
    | none => 0#8
    | some x => x.code
  let flagOf := fun b : Bool => if b then 1#8 else 0#8
  let directionOf := fun d : Direction => match d with
    | .forward => 0#8
    | .reverse => 1#8
  let relationOf := fun r : Relation => match r with
    | .any => 0#8
    | .next => 1#8
    | .same => 2#8
    | .new => 3#8
  let codeSpells := fun (code : Byte) (e : Option EventSetting) => ∀ x ∈ e, code = x.code
  let badLevel := fun level : Byte => 3 < level.toNat ∧ level ≠ 0xFF#8
  (∀ (h : Header) (count hold overflow target verdict level code : Byte),
    let u := h.unexpected
    let list := [count, hold, overflow, target, verdict, level, code]
    headerBytes h =
      [BitVec.ofNat 8 h.stateCount.val, flagOf h.holdOnAlarm, verdictOf h.overflow, unexpectedOf u.target,
        verdictOf u.verdict, levelOf u.event, eventCodeOf u.event] ∧
    (parseHeader list = some h ↔
      count.toNat = h.stateCount.val ∧ hold = flagOf h.holdOnAlarm ∧ overflow = verdictOf h.overflow ∧
        target = unexpectedOf u.target ∧ verdict = verdictOf u.verdict ∧ level = levelOf u.event ∧
        codeSpells code u.event) ∧
    (parseHeader list = none ↔
      16 < count.toNat ∨ 1 < hold.toNat ∨ 1 < overflow.toNat ∨ 0x11 < target.toNat ∨ 1 < (verdict).toNat ∨
        badLevel level)) ∧
  (∀ (t : StateIndex) (r : StateRecord) (index hi lo target level code kind limit : Byte),
    let list := [index, hi, lo, target, level, code, kind, limit]
    stateBytes t r =
      [BitVec.ofNat 8 t.val, BitVec.ofNat 8 (r.timeout.toNat / 256), BitVec.ofNat 8 r.timeout.toNat,
        targetOf r.target, levelOf r.event, eventCodeOf r.event, flagOf r.alarm, BitVec.ofNat 8 r.retryLimit.toNat] ∧
    (parseState list = some (t, r) ↔
      index.toNat = t.val ∧ r.timeout.toNat = 256 * hi.toNat + lo.toNat ∧ target = targetOf r.target ∧
        level = levelOf r.event ∧ codeSpells code r.event ∧ kind = flagOf r.alarm ∧
        limit.toNat = r.retryLimit.toNat) ∧
    (parseState list = none ↔
      15 < index.toNat ∨ 0x10 < target.toNat ∨ badLevel level ∨ 1 < kind.toNat ∨ 15 < limit.toNat)) ∧
  ∀ (p : Position) (t : Transition)
      (position fromState direction low high relation present offset mask value target verdict level code : Byte),
    let list := [position, fromState, direction, low, high, relation, present, offset, mask, value, target, verdict,
      level, code]
    transitionBytes t =
      [BitVec.ofNat 8 t.fromState.val, directionOf t.direction, BitVec.ofNat 8 t.kindLow.toNat,
        BitVec.ofNat 8 t.kindHigh.toNat, relationOf t.relation] ++
        (match t.test with
          | none => [0#8, 0#8, 0#8, 0#8]
          | some x => [1#8, BitVec.ofNat 8 x.offset.val, x.mask, x.value]) ++
        [targetOf t.target, verdictOf t.verdict, levelOf t.event, eventCodeOf t.event] ∧
    (parseTransition list = some (p, t) ↔
      position.toNat = p.val ∧ fromState.toNat = t.fromState.val ∧ direction = directionOf t.direction ∧
        low.toNat = t.kindLow.toNat ∧ high.toNat = t.kindHigh.toNat ∧ relation = relationOf t.relation ∧
        (match t.test with
          | none => present = 0#8
          | some x => present = 1#8 ∧ offset.toNat = x.offset.val ∧ mask = x.mask ∧ value = x.value) ∧
        target = targetOf t.target ∧ verdict = verdictOf t.verdict ∧ level = levelOf t.event ∧
        codeSpells code t.event) ∧
    (parseTransition list = none ↔
      47 < position.toNat ∨ 15 < fromState.toNat ∨ 1 < direction.toNat ∨ 63 < low.toNat ∨ 63 < high.toNat ∨
        3 < relation.toNat ∨ 1 < present.toNat ∨ (present = 1#8 ∧ 47 < offset.toNat) ∨ 0x10 < target.toNat ∨
        1 < (verdict).toNat ∨ badLevel level)
end

