-- ==== Sys2Proof/Laws/State.lean ====
section
/-! SUPPORT. The named updates of State (Machine/Ops.lean), field by field: what each leaves as it was, and what is read
back after it. -/

namespace Sys2Proof.Machine

/-! ### `setPort` leaves everything but the ports -/

@[simp] theorem State.setPort_pending (p : Port) (q : PortState) (s : State) :
    (s.setPort p q).pending = s.pending := by cases p <;> rfl
@[simp] theorem State.setPort_resetHeld (p : Port) (q : PortState) (s : State) :
    (s.setPort p q).resetHeld = s.resetHeld := by cases p <;> rfl
@[simp] theorem State.setPort_entries (p : Port) (q : PortState) (s : State) :
    (s.setPort p q).entries = s.entries := by cases p <;> rfl
@[simp] theorem State.setPort_mode (p : Port) (q : PortState) (s : State) :
    (s.setPort p q).mode = s.mode := by cases p <;> rfl
@[simp] theorem State.setPort_defaultAction (p : Port) (q : PortState) (s : State) :
    (s.setPort p q).defaultAction = s.defaultAction := by cases p <;> rfl
@[simp] theorem State.setPort_faultLatch (p : Port) (q : PortState) (s : State) :
    (s.setPort p q).faultLatch = s.faultLatch := by cases p <;> rfl
@[simp] theorem State.setPort_slots (p : Port) (q : PortState) (s : State) :
    (s.setPort p q).slots = s.slots := by cases p <;> rfl
@[simp] theorem State.setPort_contexts (p : Port) (q : PortState) (s : State) :
    (s.setPort p q).contexts = s.contexts := by cases p <;> rfl
@[simp] theorem State.setPort_tick (p : Port) (q : PortState) (s : State) :
    (s.setPort p q).tick = s.tick := by cases p <;> rfl
@[simp] theorem State.setPort_managementTickOwed (p : Port) (q : PortState) (s : State) :
    (s.setPort p q).managementTickOwed = s.managementTickOwed := by cases p <;> rfl
@[simp] theorem State.setPort_reportTickOwed (p : Port) (q : PortState) (s : State) :
    (s.setPort p q).reportTickOwed = s.reportTickOwed := by cases p <;> rfl
@[simp] theorem State.setPort_events (p : Port) (q : PortState) (s : State) :
    (s.setPort p q).events = s.events := by cases p <;> rfl
@[simp] theorem State.setPort_nextSerial (p : Port) (q : PortState) (s : State) :
    (s.setPort p q).nextSerial = s.nextSerial := by cases p <;> rfl
@[simp] theorem State.setPort_lostCount (p : Port) (q : PortState) (s : State) :
    (s.setPort p q).lostCount = s.lostCount := by cases p <;> rfl
@[simp] theorem State.setPort_collector (p : Port) (q : PortState) (s : State) :
    (s.setPort p q).collector = s.collector := by cases p <;> rfl
@[simp] theorem State.setPort_report (p : Port) (q : PortState) (s : State) :
    (s.setPort p q).report = s.report := by cases p <;> rfl
@[simp] theorem State.setPort_ownAddress (p : Port) (q : PortState) (s : State) :
    (s.setPort p q).ownAddress = s.ownAddress := by cases p <;> rfl
@[simp] theorem State.setPort_managers (p : Port) (q : PortState) (s : State) :
    (s.setPort p q).managers = s.managers := by cases p <;> rfl
@[simp] theorem State.setPort_lock (p : Port) (q : PortState) (s : State) :
    (s.setPort p q).lock = s.lock := by cases p <;> rfl
@[simp] theorem State.setPort_responses (p : Port) (q : PortState) (s : State) :
    (s.setPort p q).responses = s.responses := by cases p <;> rfl
@[simp] theorem State.setPort_cache (p : Port) (q : PortState) (s : State) :
    (s.setPort p q).cache = s.cache := by cases p <;> rfl
@[simp] theorem State.setPort_overruns (p : Port) (q : PortState) (s : State) :
    (s.setPort p q).overruns = s.overruns := by cases p <;> rfl
@[simp] theorem State.setPort_resetCause (p : Port) (q : PortState) (s : State) :
    (s.setPort p q).resetCause = s.resetCause := by cases p <;> rfl
@[simp] theorem State.setPort_staging (p : Port) (q : PortState) (s : State) :
    (s.setPort p q).staging = s.staging := by cases p <;> rfl

/-! ### `modifyPort` leaves everything but the ports -/

@[simp] theorem State.modifyPort_pending (p : Port) (f : PortState → PortState) (s : State) :
    (s.modifyPort p f).pending = s.pending := by cases p <;> rfl
@[simp] theorem State.modifyPort_resetHeld (p : Port) (f : PortState → PortState) (s : State) :
    (s.modifyPort p f).resetHeld = s.resetHeld := by cases p <;> rfl
@[simp] theorem State.modifyPort_entries (p : Port) (f : PortState → PortState) (s : State) :
    (s.modifyPort p f).entries = s.entries := by cases p <;> rfl
@[simp] theorem State.modifyPort_mode (p : Port) (f : PortState → PortState) (s : State) :
    (s.modifyPort p f).mode = s.mode := by cases p <;> rfl
@[simp] theorem State.modifyPort_defaultAction (p : Port) (f : PortState → PortState) (s : State) :
    (s.modifyPort p f).defaultAction = s.defaultAction := by cases p <;> rfl
@[simp] theorem State.modifyPort_faultLatch (p : Port) (f : PortState → PortState) (s : State) :
    (s.modifyPort p f).faultLatch = s.faultLatch := by cases p <;> rfl
@[simp] theorem State.modifyPort_slots (p : Port) (f : PortState → PortState) (s : State) :
    (s.modifyPort p f).slots = s.slots := by cases p <;> rfl
@[simp] theorem State.modifyPort_contexts (p : Port) (f : PortState → PortState) (s : State) :
    (s.modifyPort p f).contexts = s.contexts := by cases p <;> rfl
@[simp] theorem State.modifyPort_tick (p : Port) (f : PortState → PortState) (s : State) :
    (s.modifyPort p f).tick = s.tick := by cases p <;> rfl
@[simp] theorem State.modifyPort_managementTickOwed (p : Port) (f : PortState → PortState) (s : State) :
    (s.modifyPort p f).managementTickOwed = s.managementTickOwed := by cases p <;> rfl
@[simp] theorem State.modifyPort_reportTickOwed (p : Port) (f : PortState → PortState) (s : State) :
    (s.modifyPort p f).reportTickOwed = s.reportTickOwed := by cases p <;> rfl
@[simp] theorem State.modifyPort_events (p : Port) (f : PortState → PortState) (s : State) :
    (s.modifyPort p f).events = s.events := by cases p <;> rfl
@[simp] theorem State.modifyPort_nextSerial (p : Port) (f : PortState → PortState) (s : State) :
    (s.modifyPort p f).nextSerial = s.nextSerial := by cases p <;> rfl
@[simp] theorem State.modifyPort_lostCount (p : Port) (f : PortState → PortState) (s : State) :
    (s.modifyPort p f).lostCount = s.lostCount := by cases p <;> rfl
@[simp] theorem State.modifyPort_collector (p : Port) (f : PortState → PortState) (s : State) :
    (s.modifyPort p f).collector = s.collector := by cases p <;> rfl
@[simp] theorem State.modifyPort_report (p : Port) (f : PortState → PortState) (s : State) :
    (s.modifyPort p f).report = s.report := by cases p <;> rfl
@[simp] theorem State.modifyPort_ownAddress (p : Port) (f : PortState → PortState) (s : State) :
    (s.modifyPort p f).ownAddress = s.ownAddress := by cases p <;> rfl
@[simp] theorem State.modifyPort_managers (p : Port) (f : PortState → PortState) (s : State) :
    (s.modifyPort p f).managers = s.managers := by cases p <;> rfl
@[simp] theorem State.modifyPort_lock (p : Port) (f : PortState → PortState) (s : State) :
    (s.modifyPort p f).lock = s.lock := by cases p <;> rfl
@[simp] theorem State.modifyPort_responses (p : Port) (f : PortState → PortState) (s : State) :
    (s.modifyPort p f).responses = s.responses := by cases p <;> rfl
@[simp] theorem State.modifyPort_cache (p : Port) (f : PortState → PortState) (s : State) :
    (s.modifyPort p f).cache = s.cache := by cases p <;> rfl
@[simp] theorem State.modifyPort_overruns (p : Port) (f : PortState → PortState) (s : State) :
    (s.modifyPort p f).overruns = s.overruns := by cases p <;> rfl
@[simp] theorem State.modifyPort_resetCause (p : Port) (f : PortState → PortState) (s : State) :
    (s.modifyPort p f).resetCause = s.resetCause := by cases p <;> rfl
@[simp] theorem State.modifyPort_staging (p : Port) (f : PortState → PortState) (s : State) :
    (s.modifyPort p f).staging = s.staging := by cases p <;> rfl

/-! ### `count` leaves everything but the ports -/

@[simp] theorem State.count_pending (p : Port) (k : PortCounter) (n : Nat) (s : State) :
    (s.count p k n).pending = s.pending := by cases p <;> rfl
@[simp] theorem State.count_resetHeld (p : Port) (k : PortCounter) (n : Nat) (s : State) :
    (s.count p k n).resetHeld = s.resetHeld := by cases p <;> rfl
@[simp] theorem State.count_entries (p : Port) (k : PortCounter) (n : Nat) (s : State) :
    (s.count p k n).entries = s.entries := by cases p <;> rfl
@[simp] theorem State.count_mode (p : Port) (k : PortCounter) (n : Nat) (s : State) :
    (s.count p k n).mode = s.mode := by cases p <;> rfl
@[simp] theorem State.count_defaultAction (p : Port) (k : PortCounter) (n : Nat) (s : State) :
    (s.count p k n).defaultAction = s.defaultAction := by cases p <;> rfl
@[simp] theorem State.count_faultLatch (p : Port) (k : PortCounter) (n : Nat) (s : State) :
    (s.count p k n).faultLatch = s.faultLatch := by cases p <;> rfl
@[simp] theorem State.count_slots (p : Port) (k : PortCounter) (n : Nat) (s : State) :
    (s.count p k n).slots = s.slots := by cases p <;> rfl
@[simp] theorem State.count_contexts (p : Port) (k : PortCounter) (n : Nat) (s : State) :
    (s.count p k n).contexts = s.contexts := by cases p <;> rfl
@[simp] theorem State.count_tick (p : Port) (k : PortCounter) (n : Nat) (s : State) :
    (s.count p k n).tick = s.tick := by cases p <;> rfl
@[simp] theorem State.count_managementTickOwed (p : Port) (k : PortCounter) (n : Nat) (s : State) :
    (s.count p k n).managementTickOwed = s.managementTickOwed := by cases p <;> rfl
@[simp] theorem State.count_reportTickOwed (p : Port) (k : PortCounter) (n : Nat) (s : State) :
    (s.count p k n).reportTickOwed = s.reportTickOwed := by cases p <;> rfl
@[simp] theorem State.count_events (p : Port) (k : PortCounter) (n : Nat) (s : State) :
    (s.count p k n).events = s.events := by cases p <;> rfl
@[simp] theorem State.count_nextSerial (p : Port) (k : PortCounter) (n : Nat) (s : State) :
    (s.count p k n).nextSerial = s.nextSerial := by cases p <;> rfl
@[simp] theorem State.count_lostCount (p : Port) (k : PortCounter) (n : Nat) (s : State) :
    (s.count p k n).lostCount = s.lostCount := by cases p <;> rfl
@[simp] theorem State.count_collector (p : Port) (k : PortCounter) (n : Nat) (s : State) :
    (s.count p k n).collector = s.collector := by cases p <;> rfl
@[simp] theorem State.count_report (p : Port) (k : PortCounter) (n : Nat) (s : State) :
    (s.count p k n).report = s.report := by cases p <;> rfl
@[simp] theorem State.count_ownAddress (p : Port) (k : PortCounter) (n : Nat) (s : State) :
    (s.count p k n).ownAddress = s.ownAddress := by cases p <;> rfl
@[simp] theorem State.count_managers (p : Port) (k : PortCounter) (n : Nat) (s : State) :
    (s.count p k n).managers = s.managers := by cases p <;> rfl
@[simp] theorem State.count_lock (p : Port) (k : PortCounter) (n : Nat) (s : State) :
    (s.count p k n).lock = s.lock := by cases p <;> rfl
@[simp] theorem State.count_responses (p : Port) (k : PortCounter) (n : Nat) (s : State) :
    (s.count p k n).responses = s.responses := by cases p <;> rfl
@[simp] theorem State.count_cache (p : Port) (k : PortCounter) (n : Nat) (s : State) :
    (s.count p k n).cache = s.cache := by cases p <;> rfl
@[simp] theorem State.count_overruns (p : Port) (k : PortCounter) (n : Nat) (s : State) :
    (s.count p k n).overruns = s.overruns := by cases p <;> rfl
@[simp] theorem State.count_resetCause (p : Port) (k : PortCounter) (n : Nat) (s : State) :
    (s.count p k n).resetCause = s.resetCause := by cases p <;> rfl
@[simp] theorem State.count_staging (p : Port) (k : PortCounter) (n : Nat) (s : State) :
    (s.count p k n).staging = s.staging := by cases p <;> rfl

/-! ### `modifySlot` leaves everything but the slots -/

@[simp] theorem State.modifySlot_pending (k : SlotIndex) (f : Slot → Slot) (s : State) :
    (s.modifySlot k f).pending = s.pending := rfl
@[simp] theorem State.modifySlot_resetHeld (k : SlotIndex) (f : Slot → Slot) (s : State) :
    (s.modifySlot k f).resetHeld = s.resetHeld := rfl
@[simp] theorem State.modifySlot_portA (k : SlotIndex) (f : Slot → Slot) (s : State) :
    (s.modifySlot k f).portA = s.portA := rfl
@[simp] theorem State.modifySlot_portB (k : SlotIndex) (f : Slot → Slot) (s : State) :
    (s.modifySlot k f).portB = s.portB := rfl
@[simp] theorem State.modifySlot_entries (k : SlotIndex) (f : Slot → Slot) (s : State) :
    (s.modifySlot k f).entries = s.entries := rfl
@[simp] theorem State.modifySlot_mode (k : SlotIndex) (f : Slot → Slot) (s : State) :
    (s.modifySlot k f).mode = s.mode := rfl
@[simp] theorem State.modifySlot_defaultAction (k : SlotIndex) (f : Slot → Slot) (s : State) :
    (s.modifySlot k f).defaultAction = s.defaultAction := rfl
@[simp] theorem State.modifySlot_faultLatch (k : SlotIndex) (f : Slot → Slot) (s : State) :
    (s.modifySlot k f).faultLatch = s.faultLatch := rfl
@[simp] theorem State.modifySlot_contexts (k : SlotIndex) (f : Slot → Slot) (s : State) :
    (s.modifySlot k f).contexts = s.contexts := rfl
@[simp] theorem State.modifySlot_tick (k : SlotIndex) (f : Slot → Slot) (s : State) :
    (s.modifySlot k f).tick = s.tick := rfl
@[simp] theorem State.modifySlot_managementTickOwed (k : SlotIndex) (f : Slot → Slot) (s : State) :
    (s.modifySlot k f).managementTickOwed = s.managementTickOwed := rfl
@[simp] theorem State.modifySlot_reportTickOwed (k : SlotIndex) (f : Slot → Slot) (s : State) :
    (s.modifySlot k f).reportTickOwed = s.reportTickOwed := rfl
@[simp] theorem State.modifySlot_events (k : SlotIndex) (f : Slot → Slot) (s : State) :
    (s.modifySlot k f).events = s.events := rfl
@[simp] theorem State.modifySlot_nextSerial (k : SlotIndex) (f : Slot → Slot) (s : State) :
    (s.modifySlot k f).nextSerial = s.nextSerial := rfl
@[simp] theorem State.modifySlot_lostCount (k : SlotIndex) (f : Slot → Slot) (s : State) :
    (s.modifySlot k f).lostCount = s.lostCount := rfl
@[simp] theorem State.modifySlot_collector (k : SlotIndex) (f : Slot → Slot) (s : State) :
    (s.modifySlot k f).collector = s.collector := rfl
@[simp] theorem State.modifySlot_report (k : SlotIndex) (f : Slot → Slot) (s : State) :
    (s.modifySlot k f).report = s.report := rfl
@[simp] theorem State.modifySlot_ownAddress (k : SlotIndex) (f : Slot → Slot) (s : State) :
    (s.modifySlot k f).ownAddress = s.ownAddress := rfl
@[simp] theorem State.modifySlot_managers (k : SlotIndex) (f : Slot → Slot) (s : State) :
    (s.modifySlot k f).managers = s.managers := rfl
@[simp] theorem State.modifySlot_lock (k : SlotIndex) (f : Slot → Slot) (s : State) :
    (s.modifySlot k f).lock = s.lock := rfl
@[simp] theorem State.modifySlot_responses (k : SlotIndex) (f : Slot → Slot) (s : State) :
    (s.modifySlot k f).responses = s.responses := rfl
@[simp] theorem State.modifySlot_cache (k : SlotIndex) (f : Slot → Slot) (s : State) :
    (s.modifySlot k f).cache = s.cache := rfl
@[simp] theorem State.modifySlot_overruns (k : SlotIndex) (f : Slot → Slot) (s : State) :
    (s.modifySlot k f).overruns = s.overruns := rfl
@[simp] theorem State.modifySlot_resetCause (k : SlotIndex) (f : Slot → Slot) (s : State) :
    (s.modifySlot k f).resetCause = s.resetCause := rfl
@[simp] theorem State.modifySlot_staging (k : SlotIndex) (f : Slot → Slot) (s : State) :
    (s.modifySlot k f).staging = s.staging := rfl

/-! ### `modifySlots` leaves everything but the slots -/

@[simp] theorem State.modifySlots_pending (f : Slot → Slot) (s : State) :
    (s.modifySlots f).pending = s.pending := rfl
@[simp] theorem State.modifySlots_resetHeld (f : Slot → Slot) (s : State) :
    (s.modifySlots f).resetHeld = s.resetHeld := rfl
@[simp] theorem State.modifySlots_portA (f : Slot → Slot) (s : State) :
    (s.modifySlots f).portA = s.portA := rfl
@[simp] theorem State.modifySlots_portB (f : Slot → Slot) (s : State) :
    (s.modifySlots f).portB = s.portB := rfl
@[simp] theorem State.modifySlots_entries (f : Slot → Slot) (s : State) :
    (s.modifySlots f).entries = s.entries := rfl
@[simp] theorem State.modifySlots_mode (f : Slot → Slot) (s : State) :
    (s.modifySlots f).mode = s.mode := rfl
@[simp] theorem State.modifySlots_defaultAction (f : Slot → Slot) (s : State) :
    (s.modifySlots f).defaultAction = s.defaultAction := rfl
@[simp] theorem State.modifySlots_faultLatch (f : Slot → Slot) (s : State) :
    (s.modifySlots f).faultLatch = s.faultLatch := rfl
@[simp] theorem State.modifySlots_contexts (f : Slot → Slot) (s : State) :
    (s.modifySlots f).contexts = s.contexts := rfl
@[simp] theorem State.modifySlots_tick (f : Slot → Slot) (s : State) :
    (s.modifySlots f).tick = s.tick := rfl
@[simp] theorem State.modifySlots_managementTickOwed (f : Slot → Slot) (s : State) :
    (s.modifySlots f).managementTickOwed = s.managementTickOwed := rfl
@[simp] theorem State.modifySlots_reportTickOwed (f : Slot → Slot) (s : State) :
    (s.modifySlots f).reportTickOwed = s.reportTickOwed := rfl
@[simp] theorem State.modifySlots_events (f : Slot → Slot) (s : State) :
    (s.modifySlots f).events = s.events := rfl
@[simp] theorem State.modifySlots_nextSerial (f : Slot → Slot) (s : State) :
    (s.modifySlots f).nextSerial = s.nextSerial := rfl
@[simp] theorem State.modifySlots_lostCount (f : Slot → Slot) (s : State) :
    (s.modifySlots f).lostCount = s.lostCount := rfl
@[simp] theorem State.modifySlots_collector (f : Slot → Slot) (s : State) :
    (s.modifySlots f).collector = s.collector := rfl
@[simp] theorem State.modifySlots_report (f : Slot → Slot) (s : State) :
    (s.modifySlots f).report = s.report := rfl
@[simp] theorem State.modifySlots_ownAddress (f : Slot → Slot) (s : State) :
    (s.modifySlots f).ownAddress = s.ownAddress := rfl
@[simp] theorem State.modifySlots_managers (f : Slot → Slot) (s : State) :
    (s.modifySlots f).managers = s.managers := rfl
@[simp] theorem State.modifySlots_lock (f : Slot → Slot) (s : State) :
    (s.modifySlots f).lock = s.lock := rfl
@[simp] theorem State.modifySlots_responses (f : Slot → Slot) (s : State) :
    (s.modifySlots f).responses = s.responses := rfl
@[simp] theorem State.modifySlots_cache (f : Slot → Slot) (s : State) :
    (s.modifySlots f).cache = s.cache := rfl
@[simp] theorem State.modifySlots_overruns (f : Slot → Slot) (s : State) :
    (s.modifySlots f).overruns = s.overruns := rfl
@[simp] theorem State.modifySlots_resetCause (f : Slot → Slot) (s : State) :
    (s.modifySlots f).resetCause = s.resetCause := rfl
@[simp] theorem State.modifySlots_staging (f : Slot → Slot) (s : State) :
    (s.modifySlots f).staging = s.staging := rfl

/-! ### `countSlot` leaves everything but the slots -/

@[simp] theorem State.countSlot_pending (k : SlotIndex) (c : SlotCounter) (s : State) :
    (s.countSlot k c).pending = s.pending := rfl
@[simp] theorem State.countSlot_resetHeld (k : SlotIndex) (c : SlotCounter) (s : State) :
    (s.countSlot k c).resetHeld = s.resetHeld := rfl
@[simp] theorem State.countSlot_portA (k : SlotIndex) (c : SlotCounter) (s : State) :
    (s.countSlot k c).portA = s.portA := rfl
@[simp] theorem State.countSlot_portB (k : SlotIndex) (c : SlotCounter) (s : State) :
    (s.countSlot k c).portB = s.portB := rfl
@[simp] theorem State.countSlot_entries (k : SlotIndex) (c : SlotCounter) (s : State) :
    (s.countSlot k c).entries = s.entries := rfl
@[simp] theorem State.countSlot_mode (k : SlotIndex) (c : SlotCounter) (s : State) :
    (s.countSlot k c).mode = s.mode := rfl
@[simp] theorem State.countSlot_defaultAction (k : SlotIndex) (c : SlotCounter) (s : State) :
    (s.countSlot k c).defaultAction = s.defaultAction := rfl
@[simp] theorem State.countSlot_faultLatch (k : SlotIndex) (c : SlotCounter) (s : State) :
    (s.countSlot k c).faultLatch = s.faultLatch := rfl
@[simp] theorem State.countSlot_contexts (k : SlotIndex) (c : SlotCounter) (s : State) :
    (s.countSlot k c).contexts = s.contexts := rfl
@[simp] theorem State.countSlot_tick (k : SlotIndex) (c : SlotCounter) (s : State) :
    (s.countSlot k c).tick = s.tick := rfl
@[simp] theorem State.countSlot_managementTickOwed (k : SlotIndex) (c : SlotCounter) (s : State) :
    (s.countSlot k c).managementTickOwed = s.managementTickOwed := rfl
@[simp] theorem State.countSlot_reportTickOwed (k : SlotIndex) (c : SlotCounter) (s : State) :
    (s.countSlot k c).reportTickOwed = s.reportTickOwed := rfl
@[simp] theorem State.countSlot_events (k : SlotIndex) (c : SlotCounter) (s : State) :
    (s.countSlot k c).events = s.events := rfl
@[simp] theorem State.countSlot_nextSerial (k : SlotIndex) (c : SlotCounter) (s : State) :
    (s.countSlot k c).nextSerial = s.nextSerial := rfl
@[simp] theorem State.countSlot_lostCount (k : SlotIndex) (c : SlotCounter) (s : State) :
    (s.countSlot k c).lostCount = s.lostCount := rfl
@[simp] theorem State.countSlot_collector (k : SlotIndex) (c : SlotCounter) (s : State) :
    (s.countSlot k c).collector = s.collector := rfl
@[simp] theorem State.countSlot_report (k : SlotIndex) (c : SlotCounter) (s : State) :
    (s.countSlot k c).report = s.report := rfl
@[simp] theorem State.countSlot_ownAddress (k : SlotIndex) (c : SlotCounter) (s : State) :
    (s.countSlot k c).ownAddress = s.ownAddress := rfl
@[simp] theorem State.countSlot_managers (k : SlotIndex) (c : SlotCounter) (s : State) :
    (s.countSlot k c).managers = s.managers := rfl
@[simp] theorem State.countSlot_lock (k : SlotIndex) (c : SlotCounter) (s : State) :
    (s.countSlot k c).lock = s.lock := rfl
@[simp] theorem State.countSlot_responses (k : SlotIndex) (c : SlotCounter) (s : State) :
    (s.countSlot k c).responses = s.responses := rfl
@[simp] theorem State.countSlot_cache (k : SlotIndex) (c : SlotCounter) (s : State) :
    (s.countSlot k c).cache = s.cache := rfl
@[simp] theorem State.countSlot_overruns (k : SlotIndex) (c : SlotCounter) (s : State) :
    (s.countSlot k c).overruns = s.overruns := rfl
@[simp] theorem State.countSlot_resetCause (k : SlotIndex) (c : SlotCounter) (s : State) :
    (s.countSlot k c).resetCause = s.resetCause := rfl
@[simp] theorem State.countSlot_staging (k : SlotIndex) (c : SlotCounter) (s : State) :
    (s.countSlot k c).staging = s.staging := rfl

/-! ### `setContext` leaves everything but the contexts -/

@[simp] theorem State.setContext_pending (i : ContextIndex) (c : Option Context) (s : State) :
    (s.setContext i c).pending = s.pending := rfl
@[simp] theorem State.setContext_resetHeld (i : ContextIndex) (c : Option Context) (s : State) :
    (s.setContext i c).resetHeld = s.resetHeld := rfl
@[simp] theorem State.setContext_portA (i : ContextIndex) (c : Option Context) (s : State) :
    (s.setContext i c).portA = s.portA := rfl
@[simp] theorem State.setContext_portB (i : ContextIndex) (c : Option Context) (s : State) :
    (s.setContext i c).portB = s.portB := rfl
@[simp] theorem State.setContext_entries (i : ContextIndex) (c : Option Context) (s : State) :
    (s.setContext i c).entries = s.entries := rfl
@[simp] theorem State.setContext_mode (i : ContextIndex) (c : Option Context) (s : State) :
    (s.setContext i c).mode = s.mode := rfl
@[simp] theorem State.setContext_defaultAction (i : ContextIndex) (c : Option Context) (s : State) :
    (s.setContext i c).defaultAction = s.defaultAction := rfl
@[simp] theorem State.setContext_faultLatch (i : ContextIndex) (c : Option Context) (s : State) :
    (s.setContext i c).faultLatch = s.faultLatch := rfl
@[simp] theorem State.setContext_slots (i : ContextIndex) (c : Option Context) (s : State) :
    (s.setContext i c).slots = s.slots := rfl
@[simp] theorem State.setContext_tick (i : ContextIndex) (c : Option Context) (s : State) :
    (s.setContext i c).tick = s.tick := rfl
@[simp] theorem State.setContext_managementTickOwed (i : ContextIndex) (c : Option Context) (s : State) :
    (s.setContext i c).managementTickOwed = s.managementTickOwed := rfl
@[simp] theorem State.setContext_reportTickOwed (i : ContextIndex) (c : Option Context) (s : State) :
    (s.setContext i c).reportTickOwed = s.reportTickOwed := rfl
@[simp] theorem State.setContext_events (i : ContextIndex) (c : Option Context) (s : State) :
    (s.setContext i c).events = s.events := rfl
@[simp] theorem State.setContext_nextSerial (i : ContextIndex) (c : Option Context) (s : State) :
    (s.setContext i c).nextSerial = s.nextSerial := rfl
@[simp] theorem State.setContext_lostCount (i : ContextIndex) (c : Option Context) (s : State) :
    (s.setContext i c).lostCount = s.lostCount := rfl
@[simp] theorem State.setContext_collector (i : ContextIndex) (c : Option Context) (s : State) :
    (s.setContext i c).collector = s.collector := rfl
@[simp] theorem State.setContext_report (i : ContextIndex) (c : Option Context) (s : State) :
    (s.setContext i c).report = s.report := rfl
@[simp] theorem State.setContext_ownAddress (i : ContextIndex) (c : Option Context) (s : State) :
    (s.setContext i c).ownAddress = s.ownAddress := rfl
@[simp] theorem State.setContext_managers (i : ContextIndex) (c : Option Context) (s : State) :
    (s.setContext i c).managers = s.managers := rfl
@[simp] theorem State.setContext_lock (i : ContextIndex) (c : Option Context) (s : State) :
    (s.setContext i c).lock = s.lock := rfl
@[simp] theorem State.setContext_responses (i : ContextIndex) (c : Option Context) (s : State) :
    (s.setContext i c).responses = s.responses := rfl
@[simp] theorem State.setContext_cache (i : ContextIndex) (c : Option Context) (s : State) :
    (s.setContext i c).cache = s.cache := rfl
@[simp] theorem State.setContext_overruns (i : ContextIndex) (c : Option Context) (s : State) :
    (s.setContext i c).overruns = s.overruns := rfl
@[simp] theorem State.setContext_resetCause (i : ContextIndex) (c : Option Context) (s : State) :
    (s.setContext i c).resetCause = s.resetCause := rfl
@[simp] theorem State.setContext_staging (i : ContextIndex) (c : Option Context) (s : State) :
    (s.setContext i c).staging = s.staging := rfl

/-! ### `setEntry` leaves everything but the match table -/

@[simp] theorem State.setEntry_pending (i : EntryIndex) (e : MatchEntry) (s : State) :
    (s.setEntry i e).pending = s.pending := rfl
@[simp] theorem State.setEntry_resetHeld (i : EntryIndex) (e : MatchEntry) (s : State) :
    (s.setEntry i e).resetHeld = s.resetHeld := rfl
@[simp] theorem State.setEntry_portA (i : EntryIndex) (e : MatchEntry) (s : State) :
    (s.setEntry i e).portA = s.portA := rfl
@[simp] theorem State.setEntry_portB (i : EntryIndex) (e : MatchEntry) (s : State) :
    (s.setEntry i e).portB = s.portB := rfl
@[simp] theorem State.setEntry_mode (i : EntryIndex) (e : MatchEntry) (s : State) :
    (s.setEntry i e).mode = s.mode := rfl
@[simp] theorem State.setEntry_defaultAction (i : EntryIndex) (e : MatchEntry) (s : State) :
    (s.setEntry i e).defaultAction = s.defaultAction := rfl
@[simp] theorem State.setEntry_faultLatch (i : EntryIndex) (e : MatchEntry) (s : State) :
    (s.setEntry i e).faultLatch = s.faultLatch := rfl
@[simp] theorem State.setEntry_slots (i : EntryIndex) (e : MatchEntry) (s : State) :
    (s.setEntry i e).slots = s.slots := rfl
@[simp] theorem State.setEntry_contexts (i : EntryIndex) (e : MatchEntry) (s : State) :
    (s.setEntry i e).contexts = s.contexts := rfl
@[simp] theorem State.setEntry_tick (i : EntryIndex) (e : MatchEntry) (s : State) :
    (s.setEntry i e).tick = s.tick := rfl
@[simp] theorem State.setEntry_managementTickOwed (i : EntryIndex) (e : MatchEntry) (s : State) :
    (s.setEntry i e).managementTickOwed = s.managementTickOwed := rfl
@[simp] theorem State.setEntry_reportTickOwed (i : EntryIndex) (e : MatchEntry) (s : State) :
    (s.setEntry i e).reportTickOwed = s.reportTickOwed := rfl
@[simp] theorem State.setEntry_events (i : EntryIndex) (e : MatchEntry) (s : State) :
    (s.setEntry i e).events = s.events := rfl
@[simp] theorem State.setEntry_nextSerial (i : EntryIndex) (e : MatchEntry) (s : State) :
    (s.setEntry i e).nextSerial = s.nextSerial := rfl
@[simp] theorem State.setEntry_lostCount (i : EntryIndex) (e : MatchEntry) (s : State) :
    (s.setEntry i e).lostCount = s.lostCount := rfl
@[simp] theorem State.setEntry_collector (i : EntryIndex) (e : MatchEntry) (s : State) :
    (s.setEntry i e).collector = s.collector := rfl
@[simp] theorem State.setEntry_report (i : EntryIndex) (e : MatchEntry) (s : State) :
    (s.setEntry i e).report = s.report := rfl
@[simp] theorem State.setEntry_ownAddress (i : EntryIndex) (e : MatchEntry) (s : State) :
    (s.setEntry i e).ownAddress = s.ownAddress := rfl
@[simp] theorem State.setEntry_managers (i : EntryIndex) (e : MatchEntry) (s : State) :
    (s.setEntry i e).managers = s.managers := rfl
@[simp] theorem State.setEntry_lock (i : EntryIndex) (e : MatchEntry) (s : State) :
    (s.setEntry i e).lock = s.lock := rfl
@[simp] theorem State.setEntry_responses (i : EntryIndex) (e : MatchEntry) (s : State) :
    (s.setEntry i e).responses = s.responses := rfl
@[simp] theorem State.setEntry_cache (i : EntryIndex) (e : MatchEntry) (s : State) :
    (s.setEntry i e).cache = s.cache := rfl
@[simp] theorem State.setEntry_overruns (i : EntryIndex) (e : MatchEntry) (s : State) :
    (s.setEntry i e).overruns = s.overruns := rfl
@[simp] theorem State.setEntry_resetCause (i : EntryIndex) (e : MatchEntry) (s : State) :
    (s.setEntry i e).resetCause = s.resetCause := rfl
@[simp] theorem State.setEntry_staging (i : EntryIndex) (e : MatchEntry) (s : State) :
    (s.setEntry i e).staging = s.staging := rfl

/-! ### Reads of one table after an update of another -/

theorem State.port_congr {s t : State} (a : t.portA = s.portA) (b : t.portB = s.portB) (p : Port) :
    t.port p = s.port p := by cases p <;> simp [State.port, a, b]

theorem State.slot_congr {s t : State} (h : t.slots = s.slots) (k : SlotIndex) : t.slot k = s.slot k := by
  simp [State.slot, h]

theorem State.context_congr {s t : State} (h : t.contexts = s.contexts) (i : ContextIndex) :
    t.context i = s.context i := by simp [State.context, h]

theorem State.entry_congr {s t : State} (h : t.entries = s.entries) (i : EntryIndex) : t.entry i = s.entry i := by
  simp [State.entry, h]

@[simp] theorem State.setPort_slot (p : Port) (q : PortState) (s : State) (k' : SlotIndex) :
    (s.setPort p q).slot k' = s.slot k' := State.slot_congr (by simp) _
@[simp] theorem State.setPort_context (p : Port) (q : PortState) (s : State) (i' : ContextIndex) :
    (s.setPort p q).context i' = s.context i' := State.context_congr (by simp) _
@[simp] theorem State.setPort_entry (p : Port) (q : PortState) (s : State) (i' : EntryIndex) :
    (s.setPort p q).entry i' = s.entry i' := State.entry_congr (by simp) _
@[simp] theorem State.modifyPort_slot (p : Port) (f : PortState → PortState) (s : State) (k' : SlotIndex) :
    (s.modifyPort p f).slot k' = s.slot k' := State.slot_congr (by simp) _
@[simp] theorem State.modifyPort_context (p : Port) (f : PortState → PortState) (s : State) (i' : ContextIndex) :
    (s.modifyPort p f).context i' = s.context i' := State.context_congr (by simp) _
@[simp] theorem State.modifyPort_entry (p : Port) (f : PortState → PortState) (s : State) (i' : EntryIndex) :
    (s.modifyPort p f).entry i' = s.entry i' := State.entry_congr (by simp) _
@[simp] theorem State.count_slot (p : Port) (n : PortCounter) (m : Nat) (s : State) (k' : SlotIndex) :
    (s.count p n m).slot k' = s.slot k' := State.slot_congr (by simp) _
@[simp] theorem State.count_context (p : Port) (n : PortCounter) (m : Nat) (s : State) (i' : ContextIndex) :
    (s.count p n m).context i' = s.context i' := State.context_congr (by simp) _
@[simp] theorem State.count_entry (p : Port) (n : PortCounter) (m : Nat) (s : State) (i' : EntryIndex) :
    (s.count p n m).entry i' = s.entry i' := State.entry_congr (by simp) _
@[simp] theorem State.modifySlot_port (k : SlotIndex) (f : Slot → Slot) (s : State) (p' : Port) :
    (s.modifySlot k f).port p' = s.port p' := State.port_congr (by simp) (by simp) _
@[simp] theorem State.modifySlot_context (k : SlotIndex) (f : Slot → Slot) (s : State) (i' : ContextIndex) :
    (s.modifySlot k f).context i' = s.context i' := State.context_congr (by simp) _
@[simp] theorem State.modifySlot_entry (k : SlotIndex) (f : Slot → Slot) (s : State) (i' : EntryIndex) :
    (s.modifySlot k f).entry i' = s.entry i' := State.entry_congr (by simp) _
@[simp] theorem State.modifySlots_port (f : Slot → Slot) (s : State) (p' : Port) :
    (s.modifySlots f).port p' = s.port p' := State.port_congr (by simp) (by simp) _
@[simp] theorem State.modifySlots_context (f : Slot → Slot) (s : State) (i' : ContextIndex) :
    (s.modifySlots f).context i' = s.context i' := State.context_congr (by simp) _
@[simp] theorem State.modifySlots_entry (f : Slot → Slot) (s : State) (i' : EntryIndex) :
    (s.modifySlots f).entry i' = s.entry i' := State.entry_congr (by simp) _
@[simp] theorem State.countSlot_port (k : SlotIndex) (c : SlotCounter) (s : State) (p' : Port) :
    (s.countSlot k c).port p' = s.port p' := State.port_congr (by simp) (by simp) _
@[simp] theorem State.countSlot_context (k : SlotIndex) (c : SlotCounter) (s : State) (i' : ContextIndex) :
    (s.countSlot k c).context i' = s.context i' := State.context_congr (by simp) _
@[simp] theorem State.countSlot_entry (k : SlotIndex) (c : SlotCounter) (s : State) (i' : EntryIndex) :
    (s.countSlot k c).entry i' = s.entry i' := State.entry_congr (by simp) _
@[simp] theorem State.setContext_port (i : ContextIndex) (c : Option Context) (s : State) (p' : Port) :
    (s.setContext i c).port p' = s.port p' := State.port_congr (by simp) (by simp) _
@[simp] theorem State.setContext_slot (i : ContextIndex) (c : Option Context) (s : State) (k' : SlotIndex) :
    (s.setContext i c).slot k' = s.slot k' := State.slot_congr (by simp) _
@[simp] theorem State.setContext_entry (i : ContextIndex) (c : Option Context) (s : State) (i' : EntryIndex) :
    (s.setContext i c).entry i' = s.entry i' := State.entry_congr (by simp) _
@[simp] theorem State.setEntry_port (i : EntryIndex) (e : MatchEntry) (s : State) (p' : Port) :
    (s.setEntry i e).port p' = s.port p' := State.port_congr (by simp) (by simp) _
@[simp] theorem State.setEntry_slot (i : EntryIndex) (e : MatchEntry) (s : State) (k' : SlotIndex) :
    (s.setEntry i e).slot k' = s.slot k' := State.slot_congr (by simp) _
@[simp] theorem State.setEntry_context (i : EntryIndex) (e : MatchEntry) (s : State) (i' : ContextIndex) :
    (s.setEntry i e).context i' = s.context i' := State.context_congr (by simp) _

/-! ### Read after write -/

@[simp] theorem Port.other_ne (p : Port) : p.other ≠ p := by cases p <;> decide

@[simp] theorem Port.ne_other (p : Port) : p ≠ p.other := by cases p <;> decide

theorem Port.eq_other {p q : Port} (h : q ≠ p) : q = p.other := by cases p <;> cases q <;> simp_all [Port.other]

@[simp] theorem State.setPort_port_same (p : Port) (q : PortState) (s : State) : (s.setPort p q).port p = q := by
  cases p <;> rfl

theorem State.setPort_port_ne {p p' : Port} (h : p' ≠ p) (q : PortState) (s : State) :
    (s.setPort p q).port p' = s.port p' := by cases p <;> cases p' <;> first | rfl | exact absurd rfl h

@[simp] theorem State.setPort_port_other (p : Port) (q : PortState) (s : State) :
    (s.setPort p q).port p.other = s.port p.other := State.setPort_port_ne (Port.other_ne p) q s

@[simp] theorem State.setPort_setPort (p : Port) (q r : PortState) (s : State) :
    (s.setPort p q).setPort p r = s.setPort p r := by cases p <;> rfl

@[simp] theorem State.setPort_self (p : Port) (s : State) : s.setPort p (s.port p) = s := by cases p <;> rfl

@[simp] theorem State.modifyPort_port_same (p : Port) (f : PortState → PortState) (s : State) :
    (s.modifyPort p f).port p = f (s.port p) := State.setPort_port_same p _ s

@[simp] theorem State.modifyPort_port_other (p : Port) (f : PortState → PortState) (s : State) :
    (s.modifyPort p f).port p.other = s.port p.other := State.setPort_port_other p _ s

@[simp] theorem State.count_port_same (p : Port) (k : PortCounter) (n : Nat) (s : State) :
    (s.count p k n).port p = { s.port p with counters := raisePort k n (s.port p).counters } :=
  State.setPort_port_same p _ s

@[simp] theorem State.count_port_other (p : Port) (k : PortCounter) (n : Nat) (s : State) :
    (s.count p k n).port p.other = s.port p.other := State.setPort_port_other p _ s

@[simp] theorem State.modifySlot_slot_same (k : SlotIndex) (f : Slot → Slot) (s : State) :
    (s.modifySlot k f).slot k = f (s.slot k) := by simp [State.slot, State.modifySlot]

theorem State.modifySlot_slot_ne {k k' : SlotIndex} (h : k' ≠ k) (f : Slot → Slot) (s : State) :
    (s.modifySlot k f).slot k' = s.slot k' := by
  simp only [State.slot, State.modifySlot]
  exact Vector.getElem_set_ne _ _ (fun e => h (Fin.ext e.symm))

@[simp] theorem State.modifySlot_modifySlot (k : SlotIndex) (f g : Slot → Slot) (s : State) :
    (s.modifySlot k f).modifySlot k g = s.modifySlot k (fun x => g (f x)) := by simp [State.modifySlot]

theorem State.modifySlot_congr {k : SlotIndex} {f g : Slot → Slot} {s : State} (h : f (s.slot k) = g (s.slot k)) :
    s.modifySlot k f = s.modifySlot k g := by
  simp only [State.modifySlot, State.slot] at *
  rw [h]

@[simp] theorem State.modifySlots_slot_same (f : Slot → Slot) (s : State) (k : SlotIndex) :
    (s.modifySlots f).slot k = f (s.slot k) := by simp [State.slot, State.modifySlots]

@[simp] theorem State.setContext_context_same (i : ContextIndex) (c : Option Context) (s : State) :
    (s.setContext i c).context i = c := by simp [State.context, State.setContext]

theorem State.setContext_context_ne {i j : ContextIndex} (h : j ≠ i) (c : Option Context) (s : State) :
    (s.setContext i c).context j = s.context j := by
  simp only [State.context, State.setContext]
  exact Vector.getElem_set_ne _ _ (fun e => h (Fin.ext e.symm))

@[simp] theorem State.setEntry_entry_same (i : EntryIndex) (e : MatchEntry) (s : State) :
    (s.setEntry i e).entry i = e := by simp [State.entry, State.setEntry]

theorem State.setEntry_entry_ne {i j : EntryIndex} (h : j ≠ i) (e : MatchEntry) (s : State) :
    (s.setEntry i e).entry j = s.entry j := by
  simp only [State.entry, State.setEntry]
  exact Vector.getElem_set_ne _ _ (fun e => h (Fin.ext e.symm))

@[simp] theorem State.clearHits_entry (s : State) (i : EntryIndex) :
    s.clearHits.entry i = { s.entry i with hits := 0 } := by simp [State.clearHits, State.entry]

end Sys2Proof.Machine
end

