-- ==== Sys2Proof/Laws/Arbiter.lean ====
section
/-! SUPPORT. The egress arbiter (section 1.6), said once: when a local group is empty, what a selection takes, and what
it can change. -/

namespace Sys2Proof.Machine

/-- R12: the local group is empty when no response and no report waits at the port. -/
theorem localEmpty_iff (p : Port) (s : State) :
    localEmpty p s = true ↔ (∀ r ∈ s.responses, r.port ≠ p) ∧ reportWaiting p s = none := by simp [localEmpty]

/-- R12: the report's waiting place depends on the report unit alone. -/
theorem reportWaiting_congr {s t : State} (hr : t.report = s.report) (hc : t.collector = s.collector) (p : Port) :
    reportWaiting p t = reportWaiting p s := by simp [reportWaiting, hr, hc]

/-- R12: the local group depends on the response slots and the report unit alone. -/
theorem localEmpty_congr {s t : State} (h : t.responses = s.responses) (hr : t.report = s.report)
    (hc : t.collector = s.collector) (p : Port) : localEmpty p t = localEmpty p s := by
  simp [localEmpty, reportWaiting_congr hr hc, h]

@[simp] theorem reportWaiting_setPort (p p' : Port) (q : PortState) (s : State) :
    reportWaiting p (s.setPort p' q) = reportWaiting p s := reportWaiting_congr (by simp) (by simp) p

@[simp] theorem localEmpty_setPort (p p' : Port) (q : PortState) (s : State) :
    localEmpty p (s.setPort p' q) = localEmpty p s := localEmpty_congr (by simp) (by simp) (by simp) p

/-- R12: a waiting report names its port's collector node. -/
theorem reportWaiting_eq_some {p : Port} {node : Byte} {s : State} :
    reportWaiting p s = some node ↔ s.report.phase = .queued ∧ s.collector.target = some (node, p) := by
  unfold reportWaiting
  cases s.report.phase <;> rcases s.collector.target with _ | ⟨n, q⟩ <;> simp [and_comm]

/-- R12, R14: the first local frame is the response placed earliest at the port. -/
theorem firstLocal_response {p : Port} {s : State} {before after : List Response} {r : Response}
    (h : s.responses = before ++ r :: after) (hb : ∀ b ∈ before, b.port ≠ p) (hr : r.port = p) :
    firstLocal p s = .response r := by
  have : s.responses.find? (fun r => r.port == p) = some r := by
    rw [h, List.find?_append, List.find?_eq_none.2 (by simpa using hb)]
    simp [hr]
  simp [firstLocal, this]

/-- R14: a selected response frees its slot. -/
theorem eraseP_response {p : Port} {before after : List Response} {r : Response}
    (hb : ∀ b ∈ before, b.port ≠ p) (hr : r.port = p) :
    (before ++ r :: after).eraseP (fun x => x.port == p) = before ++ after := by
  rw [List.eraseP_append_right _ (by simpa using hb)]
  simp [hr]

/-- R14: with an empty transit queue the local group is served. -/
theorem choose_of_queue_nil {p : Port} {s : State} (h : (s.port p).queue = []) : choose p s = firstLocal p s := by
  simp [choose, h]

/-- R14: with a frame in the transit queue the local group is served only when it holds a frame and the count is 4. -/
theorem choose_of_queue_cons {p : Port} {s : State} {f : List Byte} {rest : List (List Byte)}
    (h : (s.port p).queue = f :: rest) :
    choose p s =
      if localEmpty p s = false ∧ (s.port p).consecutive = 4 then firstLocal p s else .transit f rest := by
  simp [choose, h, Config.fairness]

/-- R144, R147, R148: the end of a report changes the report unit alone. -/
theorem endReport_eq (s : State) : endReport s = { s with report := (endReport s).report } := by
  unfold endReport
  split <;> rfl

/-- R144: the selection of the report frame changes the report unit and, when it delivers, the event queue. -/
theorem reportSelected_eq (s : State) :
    reportSelected s = { s with events := (reportSelected s).events, report := (reportSelected s).report } := by
  unfold reportSelected
  split
  · rfl
  · conv_lhs => rw [endReport_eq]
    conv_rhs => rw [endReport_eq]
    rfl

/-- R13 to R15: a selection changes its port, the response slots, the event queue and the report unit, and nothing
else. -/
theorem makeSelection_eq (p : Port) (s : State) :
    makeSelection p s =
      { (s.setPort p ((makeSelection p s).port p)) with
        responses := (makeSelection p s).responses, events := (makeSelection p s).events
        report := (makeSelection p s).report } := by
  unfold makeSelection
  split
  · cases p <;> rfl
  · rename_i node _
    conv_lhs => rw [reportSelected_eq]
    conv_rhs => rw [reportSelected_eq]
    cases p <;> rfl
  · cases p <;> rfl
  · cases p <;> rfl

theorem select_eq (p : Port) (s : State) :
    select p s =
      { (s.setPort p ((select p s).port p)) with
        responses := (select p s).responses, events := (select p s).events, report := (select p s).report } := by
  unfold select
  split
  · exact makeSelection_eq p s
  · simp

/-- R13: nothing is selected while the transmitter is SENDING. -/
theorem select_of_sending {p : Port} {s : State} (h : (s.port p).sending ≠ none) : select p s = s := by
  have : (s.port p).sending.isNone = false := by
    cases hs : (s.port p).sending with
    | none => exact absurd hs h
    | some _ => rfl
  simp [select, this]

/-! ### A selection leaves the other items as they were -/

@[simp] theorem select_pending (p : Port) (s : State) : (select p s).pending = s.pending := by
  rw [select_eq]; cases p <;> rfl

@[simp] theorem select_resetHeld (p : Port) (s : State) : (select p s).resetHeld = s.resetHeld := by
  rw [select_eq]; cases p <;> rfl

@[simp] theorem select_entries (p : Port) (s : State) : (select p s).entries = s.entries := by
  rw [select_eq]; cases p <;> rfl

@[simp] theorem select_mode (p : Port) (s : State) : (select p s).mode = s.mode := by
  rw [select_eq]; cases p <;> rfl

@[simp] theorem select_defaultAction (p : Port) (s : State) : (select p s).defaultAction = s.defaultAction := by
  rw [select_eq]; cases p <;> rfl

@[simp] theorem select_faultLatch (p : Port) (s : State) : (select p s).faultLatch = s.faultLatch := by
  rw [select_eq]; cases p <;> rfl

@[simp] theorem select_slots (p : Port) (s : State) : (select p s).slots = s.slots := by
  rw [select_eq]; cases p <;> rfl

@[simp] theorem select_contexts (p : Port) (s : State) : (select p s).contexts = s.contexts := by
  rw [select_eq]; cases p <;> rfl

@[simp] theorem select_tick (p : Port) (s : State) : (select p s).tick = s.tick := by
  rw [select_eq]; cases p <;> rfl

@[simp] theorem select_managementTickOwed (p : Port) (s : State) : (select p s).managementTickOwed = s.managementTickOwed := by
  rw [select_eq]; cases p <;> rfl

@[simp] theorem select_reportTickOwed (p : Port) (s : State) : (select p s).reportTickOwed = s.reportTickOwed := by
  rw [select_eq]; cases p <;> rfl

@[simp] theorem select_nextSerial (p : Port) (s : State) : (select p s).nextSerial = s.nextSerial := by
  rw [select_eq]; cases p <;> rfl

@[simp] theorem select_lostCount (p : Port) (s : State) : (select p s).lostCount = s.lostCount := by
  rw [select_eq]; cases p <;> rfl

@[simp] theorem select_collector (p : Port) (s : State) : (select p s).collector = s.collector := by
  rw [select_eq]; cases p <;> rfl

@[simp] theorem select_ownAddress (p : Port) (s : State) : (select p s).ownAddress = s.ownAddress := by
  rw [select_eq]; cases p <;> rfl

@[simp] theorem select_managers (p : Port) (s : State) : (select p s).managers = s.managers := by
  rw [select_eq]; cases p <;> rfl

@[simp] theorem select_lock (p : Port) (s : State) : (select p s).lock = s.lock := by
  rw [select_eq]; cases p <;> rfl

@[simp] theorem select_cache (p : Port) (s : State) : (select p s).cache = s.cache := by
  rw [select_eq]; cases p <;> rfl

@[simp] theorem select_overruns (p : Port) (s : State) : (select p s).overruns = s.overruns := by
  rw [select_eq]; cases p <;> rfl

@[simp] theorem select_resetCause (p : Port) (s : State) : (select p s).resetCause = s.resetCause := by
  rw [select_eq]; cases p <;> rfl

@[simp] theorem select_staging (p : Port) (s : State) : (select p s).staging = s.staging := by
  rw [select_eq]; cases p <;> rfl

end Sys2Proof.Machine
end

