-- ==== Sys2Proof/Laws/Events.lean ====
section
/-! SUPPORT. The event queue, said once: what an offer can change, and that the queue's depth is kept. -/

namespace Sys2Proof.Machine

/-- A rise by 1 is the saturating rise by 1. -/
theorem satInc_eq_satAdd {w : Nat} (c : BitVec w) : satInc c = satAdd c 1 := by
  have hc := c.isLt
  unfold satInc satAdd
  by_cases h : c = BitVec.allOnes w
  · rw [if_pos h, if_neg (by rw [h, BitVec.toNat_allOnes]; omega)]
    exact h
  · have : c.toNat ≠ 2 ^ w - 1 := fun e => h (BitVec.eq_of_toNat_eq (by rw [e, BitVec.toNat_allOnes]))
    rw [if_neg h, if_pos (by omega)]
    apply BitVec.eq_of_toNat_eq
    simp

/-- A saturating rise, as a number. -/
theorem toNat_satAdd {w : Nat} (c : BitVec w) (n : Nat) : (satAdd c n).toNat = min (c.toNat + n) (2 ^ w - 1) := by
  have := c.isLt
  unfold satAdd
  split
  · rename_i h
    rw [BitVec.toNat_ofNat, Nat.mod_eq_of_lt h]
    omega
  · rw [BitVec.toNat_allOnes]
    omega

/-- R127 to R129: an offer changes the queue, the next serial and the lost count, and nothing else. -/
theorem offer_eq (e : EventBody) (s : State) :
    offer e s =
      { s with
        events := (offer e s).events, nextSerial := (offer e s).nextSerial, lostCount := (offer e s).lostCount } := by
  simp only [offer, decideOffer, removeCollision]
  repeat' split
  all_goals rfl

/-! ### An offer leaves the other items as they were -/

@[simp] theorem offer_pending (e : EventBody) (s : State) : (offer e s).pending = s.pending := by
  rw [offer_eq]

@[simp] theorem offer_resetHeld (e : EventBody) (s : State) : (offer e s).resetHeld = s.resetHeld := by
  rw [offer_eq]

@[simp] theorem offer_portA (e : EventBody) (s : State) : (offer e s).portA = s.portA := by
  rw [offer_eq]

@[simp] theorem offer_portB (e : EventBody) (s : State) : (offer e s).portB = s.portB := by
  rw [offer_eq]

@[simp] theorem offer_entries (e : EventBody) (s : State) : (offer e s).entries = s.entries := by
  rw [offer_eq]

@[simp] theorem offer_mode (e : EventBody) (s : State) : (offer e s).mode = s.mode := by
  rw [offer_eq]

@[simp] theorem offer_defaultAction (e : EventBody) (s : State) : (offer e s).defaultAction = s.defaultAction := by
  rw [offer_eq]

@[simp] theorem offer_faultLatch (e : EventBody) (s : State) : (offer e s).faultLatch = s.faultLatch := by
  rw [offer_eq]

@[simp] theorem offer_slots (e : EventBody) (s : State) : (offer e s).slots = s.slots := by
  rw [offer_eq]

@[simp] theorem offer_contexts (e : EventBody) (s : State) : (offer e s).contexts = s.contexts := by
  rw [offer_eq]

@[simp] theorem offer_tick (e : EventBody) (s : State) : (offer e s).tick = s.tick := by
  rw [offer_eq]

@[simp] theorem offer_managementTickOwed (e : EventBody) (s : State) : (offer e s).managementTickOwed = s.managementTickOwed := by
  rw [offer_eq]

@[simp] theorem offer_reportTickOwed (e : EventBody) (s : State) : (offer e s).reportTickOwed = s.reportTickOwed := by
  rw [offer_eq]

@[simp] theorem offer_collector (e : EventBody) (s : State) : (offer e s).collector = s.collector := by
  rw [offer_eq]

@[simp] theorem offer_report (e : EventBody) (s : State) : (offer e s).report = s.report := by
  rw [offer_eq]

@[simp] theorem offer_ownAddress (e : EventBody) (s : State) : (offer e s).ownAddress = s.ownAddress := by
  rw [offer_eq]

@[simp] theorem offer_managers (e : EventBody) (s : State) : (offer e s).managers = s.managers := by
  rw [offer_eq]

@[simp] theorem offer_lock (e : EventBody) (s : State) : (offer e s).lock = s.lock := by
  rw [offer_eq]

@[simp] theorem offer_responses (e : EventBody) (s : State) : (offer e s).responses = s.responses := by
  rw [offer_eq]

@[simp] theorem offer_cache (e : EventBody) (s : State) : (offer e s).cache = s.cache := by
  rw [offer_eq]

@[simp] theorem offer_overruns (e : EventBody) (s : State) : (offer e s).overruns = s.overruns := by
  rw [offer_eq]

@[simp] theorem offer_resetCause (e : EventBody) (s : State) : (offer e s).resetCause = s.resetCause := by
  rw [offer_eq]

@[simp] theorem offer_staging (e : EventBody) (s : State) : (offer e s).staging = s.staging := by
  rw [offer_eq]

/-! ### So do several offers -/

@[simp] theorem offerAll_nil (s : State) : offerAll [] s = s := rfl

@[simp] theorem offerAll_cons (e : EventBody) (es : List EventBody) (s : State) :
    offerAll (e :: es) s = offerAll es (offer e s) := rfl

theorem offerAll_append (es fs : List EventBody) (s : State) :
    offerAll (es ++ fs) s = offerAll fs (offerAll es s) := by simp [offerAll]

/-- R127: so do several offers, one after another. -/
theorem offerAll_eq (es : List EventBody) (s : State) :
    offerAll es s =
      { s with
        events := (offerAll es s).events, nextSerial := (offerAll es s).nextSerial
        lostCount := (offerAll es s).lostCount } := by
  induction es generalizing s with
  | nil => rfl
  | cons e es ih =>
    rw [offerAll_cons]
    conv_lhs => rw [ih]
    simp

@[simp] theorem offerAll_pending (es : List EventBody) (s : State) : (offerAll es s).pending = s.pending := by
  rw [offerAll_eq]

@[simp] theorem offerAll_resetHeld (es : List EventBody) (s : State) : (offerAll es s).resetHeld = s.resetHeld := by
  rw [offerAll_eq]

@[simp] theorem offerAll_portA (es : List EventBody) (s : State) : (offerAll es s).portA = s.portA := by
  rw [offerAll_eq]

@[simp] theorem offerAll_portB (es : List EventBody) (s : State) : (offerAll es s).portB = s.portB := by
  rw [offerAll_eq]

@[simp] theorem offerAll_entries (es : List EventBody) (s : State) : (offerAll es s).entries = s.entries := by
  rw [offerAll_eq]

@[simp] theorem offerAll_mode (es : List EventBody) (s : State) : (offerAll es s).mode = s.mode := by
  rw [offerAll_eq]

@[simp] theorem offerAll_defaultAction (es : List EventBody) (s : State) : (offerAll es s).defaultAction = s.defaultAction := by
  rw [offerAll_eq]

@[simp] theorem offerAll_faultLatch (es : List EventBody) (s : State) : (offerAll es s).faultLatch = s.faultLatch := by
  rw [offerAll_eq]

@[simp] theorem offerAll_slots (es : List EventBody) (s : State) : (offerAll es s).slots = s.slots := by
  rw [offerAll_eq]

@[simp] theorem offerAll_contexts (es : List EventBody) (s : State) : (offerAll es s).contexts = s.contexts := by
  rw [offerAll_eq]

@[simp] theorem offerAll_tick (es : List EventBody) (s : State) : (offerAll es s).tick = s.tick := by
  rw [offerAll_eq]

@[simp] theorem offerAll_managementTickOwed (es : List EventBody) (s : State) : (offerAll es s).managementTickOwed = s.managementTickOwed := by
  rw [offerAll_eq]

@[simp] theorem offerAll_reportTickOwed (es : List EventBody) (s : State) : (offerAll es s).reportTickOwed = s.reportTickOwed := by
  rw [offerAll_eq]

@[simp] theorem offerAll_collector (es : List EventBody) (s : State) : (offerAll es s).collector = s.collector := by
  rw [offerAll_eq]

@[simp] theorem offerAll_report (es : List EventBody) (s : State) : (offerAll es s).report = s.report := by
  rw [offerAll_eq]

@[simp] theorem offerAll_ownAddress (es : List EventBody) (s : State) : (offerAll es s).ownAddress = s.ownAddress := by
  rw [offerAll_eq]

@[simp] theorem offerAll_managers (es : List EventBody) (s : State) : (offerAll es s).managers = s.managers := by
  rw [offerAll_eq]

@[simp] theorem offerAll_lock (es : List EventBody) (s : State) : (offerAll es s).lock = s.lock := by
  rw [offerAll_eq]

@[simp] theorem offerAll_responses (es : List EventBody) (s : State) : (offerAll es s).responses = s.responses := by
  rw [offerAll_eq]

@[simp] theorem offerAll_cache (es : List EventBody) (s : State) : (offerAll es s).cache = s.cache := by
  rw [offerAll_eq]

@[simp] theorem offerAll_overruns (es : List EventBody) (s : State) : (offerAll es s).overruns = s.overruns := by
  rw [offerAll_eq]

@[simp] theorem offerAll_resetCause (es : List EventBody) (s : State) : (offerAll es s).resetCause = s.resetCause := by
  rw [offerAll_eq]

@[simp] theorem offerAll_staging (es : List EventBody) (s : State) : (offerAll es s).staging = s.staging := by
  rw [offerAll_eq]

/-! ### Depth -/

theorem eraseLast_length_le {α : Type} (p : α → Bool) (l : List α) : (eraseLast p l).length ≤ l.length := by
  simpa [eraseLast] using List.length_eraseP_le (p := p) (l := l.reverse)

/-- The lowest unpinned level belongs to an unpinned event. -/
theorem exists_of_lowestLevel {l : List Event} {m : BitVec 2} (h : lowestLevel l = some m) :
    ∃ x ∈ l, x.pinned = false ∧ x.body.level = m := by
  induction l generalizing m with
  | nil => simp [lowestLevel] at h
  | cons e l ih =>
    simp only [lowestLevel] at h
    split at h
    · obtain ⟨x, hx, hp⟩ := ih h
      exact ⟨x, List.mem_cons_of_mem _ hx, hp⟩
    · have he : e.pinned = false := by simpa using ‹¬e.pinned = true›
      split at h
      · exact ⟨e, List.mem_cons_self, he, by simpa using h⟩
      · rename_i k hk
        split at h
        · exact ⟨e, List.mem_cons_self, he, by simpa using h⟩
        · obtain ⟨x, hx, hp⟩ := ih hk
          exact ⟨x, List.mem_cons_of_mem _ hx, hp.1, by simpa [hp.2] using h⟩

/-- R129: a displacement removes one event. -/
theorem length_eraseLast_of_lowestLevel {l : List Event} {m : BitVec 2} (h : lowestLevel l = some m) :
    (eraseLast (fun x => !x.pinned && x.body.level == m) l).length + 1 = l.length := by
  obtain ⟨x, hx, hp, hm⟩ := exists_of_lowestLevel h
  have := List.length_eraseP_of_mem (p := fun x : Event => !x.pinned && x.body.level == m) (List.mem_reverse.2 hx)
    (by simp [hp, hm])
  have hl : 0 < l.length := List.length_pos_of_mem hx
  simp only [eraseLast, List.length_reverse] at *
  omega

/-- R126: an offer keeps the queue within its 32 places. -/
theorem length_offer_le {e : EventBody} {s : State} (h : s.events.length ≤ Config.queueDepth) :
    (offer e s).events.length ≤ Config.queueDepth := by
  have hr : (removeCollision s).events.length ≤ Config.queueDepth := by
    unfold removeCollision
    split
    · exact le_trans (List.length_filter_le _ _) h
    · exact h
  simp only [offer, decideOffer]
  split
  · simpa [admitEvent] using by omega
  · split
    · rename_i m hm
      have := length_eraseLast_of_lowestLevel hm
      split
      · simp only [admitEvent, displace, List.length_append, List.length_singleton]
        omega
      · simpa [discardOffer] using hr
    · simpa [discardOffer] using hr

end Sys2Proof.Machine
end

