-- ==== Sys2Proof/Laws/Contexts.lean ====
section
/-! SUPPORT. The end of a context (R79), of several (R81), and an install (R46), said once. -/

namespace Sys2Proof.Machine

/-! ### What an end can change -/

/-- R46: an install changes its slot alone. -/
theorem install_eq (k : SlotIndex) (img : Image) (s : State) :
    install k img s = { s with slots := (install k img s).slots } := rfl

/-- R46: the slot after an install. -/
@[simp] theorem install_slot_same (k : SlotIndex) (img : Image) (s : State) :
    (install k img s).slot k = installSlot img (s.slot k) := State.modifySlot_slot_same k _ s

@[simp] theorem install_context (k : SlotIndex) (img : Image) (s : State) (i : ContextIndex) :
    (install k img s).context i = s.context i := rfl

/-- R178: the completion of a drain changes the slots and the staging buffer. -/
theorem completeDrain_eq (k : SlotIndex) (s : State) :
    (completeDrain k s).1 =
      { s with slots := (completeDrain k s).1.slots, staging := (completeDrain k s).1.staging } := by
  simp only [completeDrain]
  repeat' split
  all_goals rfl

theorem drainIfDone_eq (k : SlotIndex) (s : State) :
    (drainIfDone k s).1 =
      { s with slots := (drainIfDone k s).1.slots, staging := (drainIfDone k s).1.staging } := by
  simp only [drainIfDone]
  repeat' split
  all_goals first | rfl | exact completeDrain_eq k s

/-- R79: the end of a context changes the context table, the slots and, where a drain completes, the staging buffer. -/
theorem endContext_eq (i : ContextIndex) (r : EndReason) (s : State) :
    (endContext i r s).1 =
      { s with
        contexts := (endContext i r s).1.contexts, slots := (endContext i r s).1.slots
        staging := (endContext i r s).1.staging } := by
  simp only [endContext]
  split
  · rfl
  · rw [drainIfDone_eq]
    rfl

/-- R79 step 1: the context is free, and every other context is as it was. -/
theorem endContext_context (i : ContextIndex) (r : EndReason) (s : State) (j : ContextIndex) :
    (endContext i r s).1.context j = if j = i then none else s.context j := by
  simp only [endContext]
  split
  · rename_i h
    split
    · rename_i e
      rw [e, h]
    · rfl
  · rename_i c _
    have h : ∀ t : State, (drainIfDone c.slot t).1.context j = t.context j := fun t =>
      State.context_congr (by rw [drainIfDone_eq]) j
    rw [h]
    simp only [freeContext, State.modifySlots_context, State.modifySlot_context]
    split
    · rename_i e
      rw [e, State.setContext_context_same]
    · rename_i e
      exact State.setContext_context_ne e _ _

/-- An end changes nothing outside the context table, the slots and the staging buffer. -/
theorem endNext_eq (which : Context → Bool) (r : EndReason) (e : Ended) (i : ContextIndex) :
    (endNext which r e i).state =
      { e.state with
        contexts := (endNext which r e i).state.contexts, slots := (endNext which r e i).state.slots
        staging := (endNext which r e i).state.staging } := by
  simp only [endNext]
  split
  · rfl
  · split
    · exact endContext_eq i r e.state
    · rfl

/-- R81: one step of ending several contexts, at the context table. -/
theorem endNext_context (which : Context → Bool) (r : EndReason) (e : Ended) (i j : ContextIndex) :
    (endNext which r e i).state.context j =
      if j = i then (e.state.context j).filter (fun c => !which c) else e.state.context j := by
  simp only [endNext]
  split
  · rename_i h
    split
    · rename_i hj
      simp [hj, h]
    · rfl
  · rename_i c h
    by_cases hw : which c = true
    · rw [if_pos hw, endContext_context]
      split
      · rename_i hj
        simp [hj, h, Option.filter, hw]
      · rfl
    · rw [if_neg hw]
      split
      · rename_i hj
        simp [hj, h, Option.filter, hw]
      · rfl

/-- R81: ending contexts along a list of indices, at the context table. -/
theorem foldl_endNext_context (which : Context → Bool) (r : EndReason) (l : List ContextIndex) (e : Ended)
    (j : ContextIndex) :
    (l.foldl (endNext which r) e).state.context j =
      if j ∈ l then (e.state.context j).filter (fun c => !which c) else e.state.context j := by
  induction l generalizing e with
  | nil => simp
  | cons i l ih =>
    rw [List.foldl_cons, ih, endNext_context]
    by_cases h1 : j = i <;> by_cases h2 : j ∈ l <;> simp [h1, h2, Option.filter_filter]

/-- R81: exactly the contexts that `which` admits have become free. -/
theorem endContexts_context (which : Context → Bool) (r : EndReason) (s : State) (j : ContextIndex) :
    (endContexts which r s).state.context j = (s.context j).filter (fun c => !which c) := by
  rw [endContexts, foldl_endNext_context, if_pos (show j ∈ contextIndices from List.mem_finRange j)]

/-- Two changes, one after the other, of the context table, the slots and the staging buffer alone. -/
theorem dialogues_trans {s t u : State}
    (h : t = { s with contexts := t.contexts, slots := t.slots, staging := t.staging })
    (h' : u = { t with contexts := u.contexts, slots := u.slots, staging := u.staging }) :
    u = { s with contexts := u.contexts, slots := u.slots, staging := u.staging } := by
  cases s; cases t; cases u
  simp only [State.mk.injEq] at *
  simp_all

/-- R81: ending several contexts changes nothing outside the context table, the slots and the staging buffer. -/
theorem endContexts_eq (which : Context → Bool) (r : EndReason) (s : State) :
    (endContexts which r s).state =
      { s with
        contexts := (endContexts which r s).state.contexts, slots := (endContexts which r s).state.slots
        staging := (endContexts which r s).state.staging } := by
  have : ∀ (l : List ContextIndex) (e : Ended), (l.foldl (endNext which r) e).state =
      { e.state with
        contexts := (l.foldl (endNext which r) e).state.contexts
        slots := (l.foldl (endNext which r) e).state.slots
        staging := (l.foldl (endNext which r) e).state.staging } := by
    intro l
    induction l with
    | nil => exact fun e => rfl
    | cons i l ih => exact fun e => dialogues_trans (endNext_eq which r e i) (ih _)
  have h := this contextIndices ⟨s, 0, []⟩
  simp only [← endContexts.eq_1] at h
  exact h

end Sys2Proof.Machine
end

