-- ==== Sys2Proof/Laws/Ends.lean ====
section
/-! SUPPORT. What the end of a context does to the slots (R79 steps 2 to 5), and how many contexts an ending of several
frees (R81). -/

namespace Sys2Proof.Machine

open Sys2Proof.Safety

/-! ### One end -/

/-- R79 steps 1 to 4, at the slots: the context's own slot loses it, and every full-reported flag is cleared. -/
theorem freeContext_slot (i : ContextIndex) (c : Context) (r : EndReason) (s : State) (k : SlotIndex) :
    (freeContext i c r s).slot k =
      clearFull (if k = c.slot then loseContext ((s.slot c.slot).status.alarmState c.state) r (s.slot k)
        else s.slot k) := by
  simp only [freeContext, State.modifySlots_slot_same]
  congr 1
  split
  · rename_i h
    rw [h, State.modifySlot_slot_same]
    rfl
  · rename_i h
    rw [State.modifySlot_slot_ne h]
    rfl

/-- R79 step 5: a slot that is not the ended context's own is untouched by the drain. -/
theorem drainIfDone_slot_ne {j k : SlotIndex} (h : k ≠ j) (s : State) : (drainIfDone j s).1.slot k = s.slot k := by
  simp only [drainIfDone, completeDrain]
  repeat' split
  all_goals first | rfl | exact State.modifySlot_slot_ne h _ _

/-- R79 step 5: without a drain to complete nothing more happens. -/
theorem drainIfDone_of_goesOn {k : SlotIndex} {s : State}
    (h : ∀ old, (s.slot k).status = .draining old → (s.slot k).contextCount ≠ 0) : drainIfDone k s = (s, []) := by
  simp only [drainIfDone]
  split
  · rw [if_neg (h _ ‹_›)]
  · rfl

/-- R79 step 5, R178: the last end of the DRAINING target of the PENDING buffer installs the waiting image. -/
theorem drainIfDone_of_done {k : SlotIndex} {s : State} {img old : Image} (h : (s.slot k).status = .draining old)
    (h0 : (s.slot k).contextCount = 0) (hs : s.staging = .pending img k) :
    drainIfDone k s =
      (install k img { s with staging := .empty }, [installedEvent k ((s.slot k).generation + 1)]) := by
  simp only [drainIfDone, h, h0, if_true, completeDrain, hs, install_slot_same]
  rfl

/-- R79: an end leaves every slot but its own as it was, but for the full-reported flag. -/
theorem endContext_slot_ne {i : ContextIndex} {r : EndReason} {s : State} {c : Context} (hc : s.context i = some c)
    {k : SlotIndex} (hk : k ≠ c.slot) : (endContext i r s).1.slot k = clearFull (s.slot k) := by
  simp only [endContext, hc]
  rw [drainIfDone_slot_ne hk, freeContext_slot, if_neg hk]

/-- R79: an end that completes no drain. -/
theorem endContext_of_goesOn {i : ContextIndex} {r : EndReason} {s : State} {c : Context} (hc : s.context i = some c)
    (h : ∀ old, (s.slot c.slot).status = .draining old → (s.slot c.slot).contextCount - 1 ≠ 0) :
    endContext i r s = (freeContext i c r s, []) := by
  simp only [endContext, hc]
  apply drainIfDone_of_goesOn
  rw [freeContext_slot, if_pos rfl]
  exact h

/-! ### Several ends -/

/-- R81: the contexts that an ending along a list of indices counts. -/
theorem foldl_endNext_count (which : Context → Bool) (r : EndReason) (l : List ContextIndex) (hl : l.Nodup) (e : Ended) :
    (l.foldl (endNext which r) e).count =
      e.count + (l.filter (fun i => (e.state.context i).any which)).length := by
  induction l generalizing e with
  | nil => rfl
  | cons i l ih =>
    obtain ⟨hi, hl⟩ := List.nodup_cons.1 hl
    have keep : ∀ j ∈ l, (endNext which r e i).state.context j = e.state.context j := fun j hj => by
      rw [endNext_context, if_neg (fun h : j = i => hi (h ▸ hj))]
    have same : l.filter (fun j => ((endNext which r e i).state.context j).any which) =
        l.filter (fun j => (e.state.context j).any which) := List.filter_congr (fun j hj => by rw [keep j hj])
    rw [List.foldl_cons, ih hl, same]
    cases h : e.state.context i with
    | none => simp [endNext, h]
    | some c =>
      by_cases hw : which c = true
      · simp only [endNext, h, hw, if_true, List.filter_cons, Option.any_some, List.length_cons]
        omega
      · simp [endNext, h, hw]

/-- R81: every context that `which` admits is counted once. -/
theorem endContexts_count (which : Context → Bool) (r : EndReason) (s : State) :
    (endContexts which r s).count = countContexts which s := by
  rw [endContexts, foldl_endNext_count which r contextIndices (List.nodup_finRange 96)]
  exact Nat.zero_add _

end Sys2Proof.Machine
end

