-- ==== Sys2Proof/Laws/Fields.lean ====
section
/-! SUPPORT. What each reader of a field's byte accepts, and as what (R49 and the parameter tables of the requests): for
each, one lemma for the value read and one for the bytes refused. -/

namespace Sys2Proof.Machine

/-! ### Numbers and flags -/

theorem parseFin_eq_some {n : Nat} {b : Byte} {i : Fin n} : parseFin n b = some i ↔ b.toNat = i.val := by
  unfold parseFin
  split
  · simp [Fin.ext_iff]
  · simp only [reduceCtorEq, false_iff]
    have := i.isLt
    omega

theorem parseFin_eq_none {n : Nat} {b : Byte} : parseFin n b = none ↔ n ≤ b.toNat := by simp [parseFin]

/-- A byte that is not below `n` differs from every value below `n`. -/
theorem ne_ofNat {b : Byte} {n : Nat} (h : n < b.toNat) (m : Nat) (hm : m ≤ n) : b ≠ BitVec.ofNat 8 m := by
  intro e
  have := congrArg BitVec.toNat e
  simp only [BitVec.toNat_ofNat] at this
  have := b.isLt
  omega

theorem parseFlag_eq_some {b : Byte} {x : Bool} : parseFlag b = some x ↔ b = flagByte x := by
  unfold parseFlag flagByte
  cases x <;> split <;> simp_all

theorem parseFlag_eq_none {b : Byte} : parseFlag b = none ↔ 1 < b.toNat := by
  revert b
  decide

/-! ### Enumerations -/

theorem parseVerdict_eq_some {b : Byte} {x : Verdict} : parseVerdict b = some x ↔ b = verdictByte x := by
  unfold parseVerdict verdictByte
  cases x <;> split <;> simp_all

theorem parseVerdict_eq_none {b : Byte} : parseVerdict b = none ↔ 1 < b.toNat := by
  revert b
  decide

theorem parsePort_eq_some {b : Byte} {x : Port} : parsePort b = some x ↔ b = portByte x := by
  unfold parsePort portByte
  cases x <;> split <;> simp_all

theorem parsePort_eq_none {b : Byte} : parsePort b = none ↔ 1 < b.toNat := by
  revert b
  decide

theorem parseDirection_eq_some {b : Byte} {x : Direction} : parseDirection b = some x ↔ b = directionByte x := by
  unfold parseDirection directionByte
  cases x <;> split <;> simp_all

theorem parseDirection_eq_none {b : Byte} : parseDirection b = none ↔ 1 < b.toNat := by
  revert b
  decide

theorem parseIngressPorts_eq_some {b : Byte} {x : IngressPorts} :
    parseIngressPorts b = some x ↔ b = ingressPortsByte x := by
  unfold parseIngressPorts ingressPortsByte
  cases x <;> repeat' split
  all_goals simp_all

theorem parseIngressPorts_eq_none {b : Byte} : parseIngressPorts b = none ↔ 2 < b.toNat := by
  revert b
  decide

theorem parseRelation_eq_some {b : Byte} {x : Relation} : parseRelation b = some x ↔ b = relationByte x := by
  unfold parseRelation relationByte
  cases x <;> repeat' split
  all_goals simp_all

theorem parseRelation_eq_none {b : Byte} : parseRelation b = none ↔ 3 < b.toNat := by
  revert b
  decide

/-! ### Kinds, targets and events -/

theorem parseKind_eq_some {b : Byte} {x : BitVec 6} : parseKind b = some x ↔ b.toNat = x.toNat := by
  unfold parseKind
  have := x.isLt
  split
  · rw [Option.some.injEq, ← BitVec.toNat_inj, BitVec.toNat_setWidth, Nat.mod_eq_of_lt ‹_›]
  · simp only [reduceCtorEq, false_iff]
    omega

theorem parseKind_eq_none {b : Byte} : parseKind b = none ↔ 63 < b.toNat := by
  unfold parseKind
  split <;> simp <;> omega

/-- A small number is its own byte. -/
theorem eq_finByte_iff {n : Nat} (hn : n ≤ 256) {b : Byte} {i : Fin n} : b = finByte i ↔ b.toNat = i.val := by
  have := i.isLt
  rw [finByte, ← BitVec.toNat_inj, BitVec.toNat_ofNat, Nat.mod_eq_of_lt (by omega)]

theorem parseTarget_eq_some {b : Byte} {x : Target} : parseTarget b = some x ↔ b = targetByte x := by
  unfold parseTarget
  cases x with
  | finish => split <;> simp_all [targetByte]
  | state t =>
    have := t.isLt
    simp only [targetByte, eq_finByte_iff (by omega : 16 ≤ 256)]
    split
    · rename_i h
      simp only [h, Option.some.injEq, reduceCtorEq, false_iff]
      decide +revert
    · simp [parseFin_eq_some]

theorem parseTarget_eq_none {b : Byte} : parseTarget b = none ↔ 0x10 < b.toNat := by
  revert b
  decide

theorem parseUnexpectedTarget_eq_some {b : Byte} {x : UnexpectedTarget} :
    parseUnexpectedTarget b = some x ↔ b = unexpectedTargetByte x := by
  unfold parseUnexpectedTarget
  cases x with
  | stay => split <;> simp_all [unexpectedTargetByte]
  | move t =>
    simp only [unexpectedTargetByte]
    split
    · rename_i h
      simp only [h, Option.some.injEq, reduceCtorEq, false_iff]
      cases t with
      | finish => decide
      | state t => revert t; decide
    · simp [parseTarget_eq_some]

theorem parseUnexpectedTarget_eq_none {b : Byte} : parseUnexpectedTarget b = none ↔ 0x11 < b.toNat := by
  revert b
  decide

/-- R49: the code byte is stored with a level alone. -/
theorem parseEvent_eq_some {level code : Byte} {x : Option EventSetting} :
    parseEvent level code = some x ↔
      (match x with
        | none => level = 0xFF#8
        | some e => level.toNat = e.level.toNat ∧ code = e.code) := by
  unfold parseEvent
  cases x with
  | none => split <;> simp_all
  | some e =>
    have := e.level.isLt
    split
    · rename_i h
      subst h
      simp
      omega
    · split
      · rcases e with ⟨l, c⟩
        simp only [Option.some.injEq, EventSetting.mk.injEq, ← BitVec.toNat_inj, BitVec.toNat_setWidth,
          Nat.mod_eq_of_lt ‹level.toNat < 4›]
      · simp
        omega

theorem parseEvent_eq_none {level code : Byte} :
    parseEvent level code = none ↔ 3 < level.toNat ∧ level ≠ 0xFF#8 := by
  unfold parseEvent
  split
  · simp_all
  · split <;> simp_all <;> omega

/-- R175: the three bytes of an absent payload test are not stored. -/
theorem parseTest_eq_some {present offset mask value : Byte} {x : Option PayloadTest} :
    parseTest present offset mask value = some x ↔
      (match x with
        | none => present = 0#8
        | some t => present = 1#8 ∧ offset.toNat = t.offset.val ∧ mask = t.mask ∧ value = t.value) := by
  unfold parseTest
  rcases hp : parseFlag present with _ | _ | _
  · rw [parseFlag_eq_none] at hp
    have h0 := ne_ofNat hp 0 (by omega)
    have h1 := ne_ofNat hp 1 (by omega)
    cases x <;> simp_all
  · rw [parseFlag_eq_some] at hp
    cases x <;> simp_all [flagByte]
  · rw [parseFlag_eq_some] at hp
    rcases ho : parseFin 48 offset with _ | o
    · rw [parseFin_eq_none] at ho
      rcases x with _ | t
      · simp_all [flagByte]
      · have := t.offset.isLt
        simp_all [flagByte]
        omega
    · rw [parseFin_eq_some] at ho
      rcases x with _ | ⟨t1, t2, t3⟩ <;> simp_all [flagByte, Fin.ext_iff]

theorem parseTest_eq_none {present offset mask value : Byte} :
    parseTest present offset mask value = none ↔ 1 < present.toNat ∨ (present = 1#8 ∧ 47 < offset.toNat) := by
  unfold parseTest
  rcases hp : parseFlag present with _ | _ | _
  · rw [parseFlag_eq_none] at hp
    simp [hp]
  · rw [parseFlag_eq_some] at hp
    simp [hp, flagByte]
  · rw [parseFlag_eq_some] at hp
    rcases ho : parseFin 48 offset with _ | o
    · rw [parseFin_eq_none] at ho
      simp [hp, flagByte]
      omega
    · rw [parseFin_eq_some] at ho
      simp [hp, flagByte]
      omega

/-! ### Match entries (R41) -/

/-- R41: the node byte is stored with the form of a node alone. -/
theorem parseNode_eq_some {allow : Bool} {form node : Byte} {x : Option Byte} :
    parseNode allow form node = some x ↔
      (match x with
        | none => form = 1#8
        | some n => form = 0#8 ∧ node = n ∧ (allow = true ∨ n ≠ 255#8)) := by
  unfold parseNode Config.broadcast
  by_cases h0 : form = 0#8 <;> by_cases h1 : form = 1#8 <;> cases allow <;> cases x <;> simp_all
  all_goals aesop

theorem parseNode_eq_none {allow : Bool} {form node : Byte} :
    parseNode allow form node = none ↔ 1 < form.toNat ∨ (form = 0#8 ∧ allow = false ∧ node = 255#8) := by
  have h : ∀ b : Byte, 1 < b.toNat ↔ b ≠ 0#8 ∧ b ≠ 1#8 := by decide
  unfold parseNode Config.broadcast
  rw [h]
  by_cases h0 : form = 0#8 <;> by_cases h1 : form = 1#8 <;> cases allow <;> simp_all

/-- R41: the slot byte is stored with WATCH alone. -/
theorem parseAction_eq_some {action slot : Byte} {x : Action} :
    parseAction action slot = some x ↔
      (match x with
        | .pass => action = 0#8
        | .drop => action = 1#8
        | .watch k => action = 2#8 ∧ slot.toNat = k.val) := by
  unfold parseAction
  cases x <;> repeat' split
  all_goals simp_all [parseFin_eq_some]

theorem parseAction_eq_none {action slot : Byte} :
    parseAction action slot = none ↔ 2 < action.toNat ∨ (action = 2#8 ∧ 7 < slot.toNat) := by
  have h : ∀ b : Byte, 2 < b.toNat ↔ b ≠ 0#8 ∧ b ≠ 1#8 ∧ b ≠ 2#8 := by decide
  unfold parseAction
  rw [h]
  repeat' split
  all_goals simp_all [parseFin_eq_none]
  all_goals omega

end Sys2Proof.Machine
end

