-- ==== Sys2Proof/Laws/Requests.lean ====
section
/-! SUPPORT. The common checks of a request (R158), said once for each way through them. -/

namespace Sys2Proof.Machine

open Sys2Proof.Safety

/-- R158 check 9 as the statements write it. -/
theorem renew_eq_renewed (x : Call) (s : State) : renew x.source s = renewed x s := by
  unfold renew renewed
  cases s.lock <;> simp

/-! ### The renewal changes the lock alone -/

@[simp] theorem renewed_pending (x : Call) (s : State) : (renewed x s).pending = s.pending := by
  unfold renewed; split <;> rfl

@[simp] theorem renewed_resetHeld (x : Call) (s : State) : (renewed x s).resetHeld = s.resetHeld := by
  unfold renewed; split <;> rfl

@[simp] theorem renewed_portA (x : Call) (s : State) : (renewed x s).portA = s.portA := by
  unfold renewed; split <;> rfl

@[simp] theorem renewed_portB (x : Call) (s : State) : (renewed x s).portB = s.portB := by
  unfold renewed; split <;> rfl

@[simp] theorem renewed_entries (x : Call) (s : State) : (renewed x s).entries = s.entries := by
  unfold renewed; split <;> rfl

@[simp] theorem renewed_mode (x : Call) (s : State) : (renewed x s).mode = s.mode := by
  unfold renewed; split <;> rfl

@[simp] theorem renewed_defaultAction (x : Call) (s : State) : (renewed x s).defaultAction = s.defaultAction := by
  unfold renewed; split <;> rfl

@[simp] theorem renewed_faultLatch (x : Call) (s : State) : (renewed x s).faultLatch = s.faultLatch := by
  unfold renewed; split <;> rfl

@[simp] theorem renewed_slots (x : Call) (s : State) : (renewed x s).slots = s.slots := by
  unfold renewed; split <;> rfl

@[simp] theorem renewed_contexts (x : Call) (s : State) : (renewed x s).contexts = s.contexts := by
  unfold renewed; split <;> rfl

@[simp] theorem renewed_tick (x : Call) (s : State) : (renewed x s).tick = s.tick := by
  unfold renewed; split <;> rfl

@[simp] theorem renewed_managementTickOwed (x : Call) (s : State) : (renewed x s).managementTickOwed = s.managementTickOwed := by
  unfold renewed; split <;> rfl

@[simp] theorem renewed_reportTickOwed (x : Call) (s : State) : (renewed x s).reportTickOwed = s.reportTickOwed := by
  unfold renewed; split <;> rfl

@[simp] theorem renewed_events (x : Call) (s : State) : (renewed x s).events = s.events := by
  unfold renewed; split <;> rfl

@[simp] theorem renewed_nextSerial (x : Call) (s : State) : (renewed x s).nextSerial = s.nextSerial := by
  unfold renewed; split <;> rfl

@[simp] theorem renewed_lostCount (x : Call) (s : State) : (renewed x s).lostCount = s.lostCount := by
  unfold renewed; split <;> rfl

@[simp] theorem renewed_collector (x : Call) (s : State) : (renewed x s).collector = s.collector := by
  unfold renewed; split <;> rfl

@[simp] theorem renewed_report (x : Call) (s : State) : (renewed x s).report = s.report := by
  unfold renewed; split <;> rfl

@[simp] theorem renewed_ownAddress (x : Call) (s : State) : (renewed x s).ownAddress = s.ownAddress := by
  unfold renewed; split <;> rfl

@[simp] theorem renewed_managers (x : Call) (s : State) : (renewed x s).managers = s.managers := by
  unfold renewed; split <;> rfl

@[simp] theorem renewed_responses (x : Call) (s : State) : (renewed x s).responses = s.responses := by
  unfold renewed; split <;> rfl

@[simp] theorem renewed_cache (x : Call) (s : State) : (renewed x s).cache = s.cache := by
  unfold renewed; split <;> rfl

@[simp] theorem renewed_overruns (x : Call) (s : State) : (renewed x s).overruns = s.overruns := by
  unfold renewed; split <;> rfl

@[simp] theorem renewed_resetCause (x : Call) (s : State) : (renewed x s).resetCause = s.resetCause := by
  unfold renewed; split <;> rfl

@[simp] theorem renewed_staging (x : Call) (s : State) : (renewed x s).staging = s.staging := by
  unfold renewed; split <;> rfl

@[simp] theorem renewed_port (x : Call) (s : State) (p : Port) : (renewed x s).port p = s.port p :=
  State.port_congr (by simp) (by simp) p

@[simp] theorem renewed_slot (x : Call) (s : State) (k : SlotIndex) : (renewed x s).slot k = s.slot k :=
  State.slot_congr (by simp) k

@[simp] theorem renewed_context (x : Call) (s : State) (i : ContextIndex) : (renewed x s).context i = s.context i :=
  State.context_congr (by simp) i

@[simp] theorem renewed_entry (x : Call) (s : State) (i : EntryIndex) : (renewed x s).entry i = s.entry i :=
  State.entry_congr (by simp) i

/-- A FREE lock stays FREE. -/
theorem renewed_lock_free {x : Call} {s : State} (h : s.lock = none) : (renewed x s).lock = none := by
  unfold renewed; split <;> simp [h]

/-- The holder's lease is renewed. -/
theorem renewed_lock_holder {x : Call} {s : State} {l : Lease} (h : s.lock = some l) (hs : l.holder = x.source) :
    (renewed x s).lock = some { l with remaining := l.length } := by simp [renewed, h, hs]

/-- A requester that is not the holder changes nothing. -/
theorem renewed_of_not_holds {x : Call} {s : State} (h : ¬holds x s) : renewed x s = s := by simp [renewed, h]

/-! ### Ways through the checks -/

/-- A request that can arrive is taken. -/
theorem requestCommand_arrives {c : RequestCode} {x : Call} {d : Damage} {s : State} (h : arrives x s) :
    requestCommand c x d s = takeRequest (callRequest c x) d s := by
  obtain ⟨h1, h2, h3, h4⟩ := h
  simp [requestCommand, canArrive, Call.wf, Config.broadcast, h1, h2, h3, h4]

/-- R155: every code byte names its request. -/
theorem codeOf_codeByte (c : RequestCode) : codeOf (codeByte c) = some c := by cases c <;> rfl

/-- R158 checks 1 to 3: a fresh request with a known code goes on to the checks of its own code. -/
theorem requestCommand_fresh {c : RequestCode} {x : Call} {d : Damage} {s : State} (ha : arrives x s)
    (hf : fresh c x s) : requestCommand c x d s = checkKnown c (callRequest c x) x.params d s := by
  have hit : cacheHit (callRequest c x) s = none := by
    simpa [cacheHit, callRequest, List.find?_eq_none] using hf.2
  rw [requestCommand_arrives ha]
  simp only [takeRequest, Config.responseSlots, if_neg (Nat.not_le.2 hf.1), checkRepeat, hit]
  simp [checkForm, callRequest, codeOf_codeByte]

/-- R158 checks 6 to 9: an admitted request, with the authority and a parameter length that it accepts, is carried
out with the lease renewed. -/
theorem requestCommand_passes {c : RequestCode} {x : Call} {d : Damage} {s : State} (h : mayAsk c x s)
    (h1 : c ≠ .identify) (h2 : c ≠ .reportAck) (lock : authority c = .lock → holds x s)
    (len : acceptsLength c x.params.length = true) :
    requestCommand c x d s = carryOut c (callRequest c x) x.params d (renewed x s) := by
  rw [requestCommand_fresh h.1 h.2.1]
  have hm : managerAdmits x.source s = true := by
    rcases h.2.2 with e | e <;> simp [managerAdmits, e]
  have hl : lockAdmits c x.source s = true := by
    unfold lockAdmits
    split <;> simp_all [holder, holds]
  have e : checkKnown c (callRequest c x) x.params d s = checkAuthority c (callRequest c x) x.params d s := by
    cases c <;> first | rfl | contradiction
  rw [e]
  have hr := renew_eq_renewed x s
  simp_all [checkAuthority, callRequest]

/-- R153: what a request other than IDENTIFY, REPORT_ACK and RESTART leaves once it has passed the checks: its own
effects, then its answer. -/
theorem requestCommand_performs {c : RequestCode} {x : Call} {d : Damage} {s : State} (h : mayAsk c x s)
    (h1 : c ≠ .identify) (h2 : c ≠ .reportAck) (h3 : c ≠ .restart) (lock : authority c = .lock → holds x s)
    (len : acceptsLength c x.params.length = true) :
    requestCommand c x d s =
      answered c x s (perform c x.source x.params d (renewed x s)).state
        (perform c x.source x.params d (renewed x s)).status (perform c x.source x.params d (renewed x s)).data := by
  rw [requestCommand_passes h h1 h2 lock len]
  cases c <;> first | contradiction | simp [carryOut, answered, callRequest]

/-! ### An answer changes the ports, the response slots, the cache and, where a report leaves too, its unit -/

/-- R162: the cache alone is updated. -/
theorem updateCache_eq (r : Request) (payload : List Byte) (s : State) :
    updateCache r payload s = { s with cache := (updateCache r payload s).cache } := by
  unfold updateCache
  split <;> rfl

@[simp] theorem answered_pending (c : RequestCode) (x : Call) (s u : State) (st : Status) (data : List Byte) :
    (answered c x s u st data).pending = u.pending := by
  simp only [answered, respond]; rw [updateCache_eq]; simp [placeResponse]

@[simp] theorem answered_resetHeld (c : RequestCode) (x : Call) (s u : State) (st : Status) (data : List Byte) :
    (answered c x s u st data).resetHeld = u.resetHeld := by
  simp only [answered, respond]; rw [updateCache_eq]; simp [placeResponse]

@[simp] theorem answered_entries (c : RequestCode) (x : Call) (s u : State) (st : Status) (data : List Byte) :
    (answered c x s u st data).entries = u.entries := by
  simp only [answered, respond]; rw [updateCache_eq]; simp [placeResponse]

@[simp] theorem answered_mode (c : RequestCode) (x : Call) (s u : State) (st : Status) (data : List Byte) :
    (answered c x s u st data).mode = u.mode := by
  simp only [answered, respond]; rw [updateCache_eq]; simp [placeResponse]

@[simp] theorem answered_defaultAction (c : RequestCode) (x : Call) (s u : State) (st : Status) (data : List Byte) :
    (answered c x s u st data).defaultAction = u.defaultAction := by
  simp only [answered, respond]; rw [updateCache_eq]; simp [placeResponse]

@[simp] theorem answered_faultLatch (c : RequestCode) (x : Call) (s u : State) (st : Status) (data : List Byte) :
    (answered c x s u st data).faultLatch = u.faultLatch := by
  simp only [answered, respond]; rw [updateCache_eq]; simp [placeResponse]

@[simp] theorem answered_slots (c : RequestCode) (x : Call) (s u : State) (st : Status) (data : List Byte) :
    (answered c x s u st data).slots = u.slots := by
  simp only [answered, respond]; rw [updateCache_eq]; simp [placeResponse]

@[simp] theorem answered_contexts (c : RequestCode) (x : Call) (s u : State) (st : Status) (data : List Byte) :
    (answered c x s u st data).contexts = u.contexts := by
  simp only [answered, respond]; rw [updateCache_eq]; simp [placeResponse]

@[simp] theorem answered_tick (c : RequestCode) (x : Call) (s u : State) (st : Status) (data : List Byte) :
    (answered c x s u st data).tick = u.tick := by
  simp only [answered, respond]; rw [updateCache_eq]; simp [placeResponse]

@[simp] theorem answered_managementTickOwed (c : RequestCode) (x : Call) (s u : State) (st : Status) (data : List Byte) :
    (answered c x s u st data).managementTickOwed = u.managementTickOwed := by
  simp only [answered, respond]; rw [updateCache_eq]; simp [placeResponse]

@[simp] theorem answered_reportTickOwed (c : RequestCode) (x : Call) (s u : State) (st : Status) (data : List Byte) :
    (answered c x s u st data).reportTickOwed = u.reportTickOwed := by
  simp only [answered, respond]; rw [updateCache_eq]; simp [placeResponse]

@[simp] theorem answered_nextSerial (c : RequestCode) (x : Call) (s u : State) (st : Status) (data : List Byte) :
    (answered c x s u st data).nextSerial = u.nextSerial := by
  simp only [answered, respond]; rw [updateCache_eq]; simp [placeResponse]

@[simp] theorem answered_lostCount (c : RequestCode) (x : Call) (s u : State) (st : Status) (data : List Byte) :
    (answered c x s u st data).lostCount = u.lostCount := by
  simp only [answered, respond]; rw [updateCache_eq]; simp [placeResponse]

@[simp] theorem answered_collector (c : RequestCode) (x : Call) (s u : State) (st : Status) (data : List Byte) :
    (answered c x s u st data).collector = u.collector := by
  simp only [answered, respond]; rw [updateCache_eq]; simp [placeResponse]

@[simp] theorem answered_ownAddress (c : RequestCode) (x : Call) (s u : State) (st : Status) (data : List Byte) :
    (answered c x s u st data).ownAddress = u.ownAddress := by
  simp only [answered, respond]; rw [updateCache_eq]; simp [placeResponse]

@[simp] theorem answered_managers (c : RequestCode) (x : Call) (s u : State) (st : Status) (data : List Byte) :
    (answered c x s u st data).managers = u.managers := by
  simp only [answered, respond]; rw [updateCache_eq]; simp [placeResponse]

@[simp] theorem answered_lock (c : RequestCode) (x : Call) (s u : State) (st : Status) (data : List Byte) :
    (answered c x s u st data).lock = u.lock := by
  simp only [answered, respond]; rw [updateCache_eq]; simp [placeResponse]

@[simp] theorem answered_overruns (c : RequestCode) (x : Call) (s u : State) (st : Status) (data : List Byte) :
    (answered c x s u st data).overruns = u.overruns := by
  simp only [answered, respond]; rw [updateCache_eq]; simp [placeResponse]

@[simp] theorem answered_resetCause (c : RequestCode) (x : Call) (s u : State) (st : Status) (data : List Byte) :
    (answered c x s u st data).resetCause = u.resetCause := by
  simp only [answered, respond]; rw [updateCache_eq]; simp [placeResponse]

@[simp] theorem answered_staging (c : RequestCode) (x : Call) (s u : State) (st : Status) (data : List Byte) :
    (answered c x s u st data).staging = u.staging := by
  simp only [answered, respond]; rw [updateCache_eq]; simp [placeResponse]

end Sys2Proof.Machine
end

