-- ==== Sys2Proof/Laws/Searches.lean ====
section
/-! SUPPORT. The searches over the tables, said once: each finds the lowest index, or nothing when none fits. -/

namespace Sys2Proof.Machine

/-- A scan in ascending order stops at the lowest index that fits. -/
theorem find_finRange_eq_some {n : Nat} (q : Fin n → Bool) (i : Fin n) :
    (List.finRange n).find? q = some i ↔ q i = true ∧ ∀ j < i, q j = false := by
  rw [List.find?_eq_some_iff_getElem]
  constructor
  · rintro ⟨h, k, hk, e, below⟩
    have hki : k = i.val := by rw [← e]; simp
    exact ⟨h, fun j hj => by simpa using below j.val (by omega)⟩
  · rintro ⟨h, below⟩
    exact ⟨h, i.val, by simp, by simp, fun j hj => by simpa using below ⟨j, by omega⟩ hj⟩

/-- The indices before `p` in ascending order are those below it. -/
theorem finRange_eq_append {n : Nat} (p : Fin n) :
    ∃ before after, List.finRange n = before ++ p :: after ∧ ∀ j, j ∈ before ↔ j < p := by
  refine ⟨(List.finRange n).take p.val, (List.finRange n).drop (p.val + 1), ?_, fun j => ?_⟩
  · apply List.ext_getElem
    · simp; omega
    · intro m _ _
      have hp := p.isLt
      apply Fin.ext
      simp only [List.getElem_append, List.getElem_cons, List.length_take, List.length_finRange]
      split
      · simp
      · split <;> simp <;> omega
  · rw [List.mem_take_iff_getElem]
    constructor
    · rintro ⟨m, hm, e⟩
      rw [← e]
      simp at hm ⊢
      exact Fin.lt_def.2 (by simp; omega)
    · exact fun h => ⟨j.val, by simp; exact h, by simp⟩

/-- A scan in ascending order that maps as it goes stops at the lowest index that yields a value. -/
theorem findSome_finRange_eq_some {n : Nat} {β : Type} (q : Fin n → Option β) (t : β) :
    (List.finRange n).findSome? q = some t ↔ ∃ p, q p = some t ∧ ∀ j < p, q j = none := by
  rw [List.findSome?_eq_some_iff]
  constructor
  · rintro ⟨before, p, after, h, hp, hb⟩
    obtain ⟨before', after', h', hm⟩ := finRange_eq_append p
    have nd := List.nodup_finRange n
    refine ⟨p, hp, fun j hj => hb j ?_⟩
    have hlen : before = before' := by
      have e := h.symm.trans h'
      rw [h] at nd
      have n1 : p ∉ before := fun hx => by
        have := (List.nodup_append.1 nd).2.2 p hx p (by simp)
        exact this rfl
      have n2 : p ∉ before' := fun hx => absurd ((hm p).1 hx) (lt_irrefl p)
      have := congrArg (List.takeWhile (fun x => decide (x ≠ p))) e
      rw [List.takeWhile_append_of_pos (by intro x hx; simpa using fun hh : x = p => n1 (hh ▸ hx)),
        List.takeWhile_append_of_pos (by intro x hx; simpa using fun hh : x = p => n2 (hh ▸ hx))] at this
      simpa using this
    exact hlen ▸ (hm j).2 hj
  · rintro ⟨p, hp, hb⟩
    obtain ⟨before, after, h, hm⟩ := finRange_eq_append p
    exact ⟨before, p, after, h, hp, fun j hj => hb j ((hm j).1 hj)⟩

/-- R70: the lookup finds the lowest context in use of the slot and the unordered pair. -/
theorem lookup_eq_some (k : SlotIndex) (a b : Byte) (s : State) (i : ContextIndex) :
    lookup k a b s = some i ↔
      (s.context i).any (keyMatches k a b) = true ∧ ∀ j < i, (s.context j).any (keyMatches k a b) = false :=
  find_finRange_eq_some _ i

/-- R70: the lookup finds nothing where no context has the key. -/
theorem lookup_eq_none (k : SlotIndex) (a b : Byte) (s : State) :
    lookup k a b s = none ↔ ∀ j, (s.context j).any (keyMatches k a b) = false := by
  simp [lookup, contextIndices, List.find?_eq_none]

/-- R72 step 1: the lowest free index. -/
theorem freeIndex_eq_some (s : State) (i : ContextIndex) :
    freeIndex s = some i ↔ s.context i = none ∧ ∀ j < i, s.context j ≠ none := by
  simp [freeIndex, contextIndices, find_finRange_eq_some, Option.isSome_iff_ne_none]

/-- R74: the table is full. -/
theorem freeIndex_eq_none (s : State) : freeIndex s = none ↔ ∀ j, s.context j ≠ none := by
  simp [freeIndex, contextIndices, List.find?_eq_none]

/-- R92, R98: the first filled position that accepts. -/
theorem firstPosition_eq_some (img : Image) (accepts : Transition → Bool) (t : Transition) :
    firstPosition img accepts = some t ↔
      ∃ p : Position, img.positions[p] = some t ∧ accepts t = true ∧
        ∀ q < p, ∀ u ∈ img.positions[q], accepts u = false := by
  simp [firstPosition, positionIndices, findSome_finRange_eq_some, Option.filter_eq_some_iff, and_assoc]

/-- R92, R98: no filled position accepts. -/
theorem firstPosition_eq_none (img : Image) (accepts : Transition → Bool) :
    firstPosition img accepts = none ↔ ∀ q : Position, ∀ u ∈ img.positions[q], accepts u = false := by
  simp [firstPosition, positionIndices, List.findSome?_eq_none_iff]

end Sys2Proof.Machine
end

