-- ==== Sys2Proof/Tests/Slice0.lean ====
section
/-! SUPPORT. Tests on small states. Expected values are the spec's (the rule is named at each test). -/

namespace Sys2Proof.Tests

set_option maxRecDepth 20000

open Sys2Proof.Machine Sys2Proof.Safety

/-! ### Helpers -/

/-- The state after a command; the state itself if it did not answer a next state. -/
def after (c : Instr) (s : State) : State :=
  match exec c s with
  | .next t => t
  | _ => s

/-- A port that is UP with a frame in reception and this transmitter and queue. -/
def upPort (sending : Option (List Byte)) (queue : List (List Byte)) : PortState :=
  ⟨true, true, queue, sending, 0, .zero⟩

/-- Both ports UP and SENDING. -/
def base : State := { State.reset with portA := upPort (some []) [], portB := upPort (some []) [] }

/-- Both ports UP and IDLE. -/
def quiet : State := { State.reset with portA := upPort none [], portB := upPort none [] }

/-- Node 1 holds the lock. -/
def held : State := { base with lock := some ⟨1#8, 5000#16, 7#16⟩ }

/-- A request from node 1 at port A. -/
def call (params : List Byte) : Call := ⟨.a, 1#8, 5#4, 9#8, params⟩

/-- The payload of the answer to the request taken last (R162). -/
def answer (s : State) : List Byte := (s.cache.head?.map CacheEntry.payload).getD []

/-- A frame's bytes with the check code that R2 gives them. -/
def sealed (body : List Byte) : List Byte := body ++ bytes16 (crc body)

/-- A program of two states: state 0 NORMAL, state 1 ALARM; kind 1 anchors into state 0, kind 2 goes on to state 1. -/
def image : Image :=
  { header := ⟨2, true, .drop, ⟨.stay, .pass, some ⟨1#2, 7#8⟩⟩⟩
    states := (Vector.replicate 16 clearedRecord).set 0 ⟨10#16, .finish, some ⟨2#2, 8#8⟩, false, 1#4⟩
      |>.set 1 ⟨20#16, .state 0, none, true, 15#4⟩
    positions := (Vector.replicate 48 none).set 0
        (some ⟨0, .forward, 1#6, 1#6, .any, none, .state 0, .pass, some ⟨0#2, 5#8⟩⟩)
      |>.set 1 (some ⟨0, .forward, 2#6, 2#6, .any, none, .state 1, .drop, none⟩)
      |>.set 2 (some ⟨0, .forward, 3#6, 3#6, .any, none, .finish, .drop, none⟩) }

/-- A context of slot 0 between nodes 10 and 20. -/
def context : Context := ⟨0, 1#8, 10#8, 20#8, 0, 100#32, 4#4, 1#4, 3#16, 90#32⟩

/-- A slot with this status and one context. -/
def slotWith (status : SlotStatus) : Slot := ⟨status, 1#8, .zero, false, true, 1, 0⟩

/-- Slot 0 ACTIVE with one context at index 0, in MONITOR, with one entry that watches every frame. -/
def watching : State :=
  { held with
    mode := .monitor, tick := 95#32
    entries := State.reset.entries.set 0 ⟨true, .both, none, none, 0#6, 63#6, .watch 0, 0#32⟩
    slots := State.reset.slots.set 0 (slotWith (.active image))
    contexts := State.reset.contexts.set 0 (some context) }

/-- Slot 0 DRAINING for the image that waits in the buffer. -/
def draining : State :=
  { watching with
    slots := State.reset.slots.set 0 (slotWith (.draining image)), staging := .pending image 0 }

/-- A frame between two nodes, from node `source`. -/
def frame (source dest : Byte) (kind : BitVec 6) (sequence : BitVec 4) : Frame :=
  ⟨dest, source, kind, sequence, [], buildFrame dest source kind sequence []⟩

/-- A queued event. -/
def event (serial : Word16) (level : BitVec 2) (pinned : Bool) : Event :=
  ⟨serial, ⟨.modeChanged, level, 0#8, none, none, none, none, none, 0#8⟩, pinned⟩

/-- A report in this phase, for node 5 at port A. -/
def reporting (phase : ReportPhase) (s : State) : State :=
  { s with
    collector := ⟨some (5#8, .a), .ack, 100#16, 2#3, 20#16⟩
    report := ⟨phase, 18#16, 1#8, 0#3, 0#16, 0#16, 0#32, 0#32, [(201#16, (event 201#16 1#2 true).body)]⟩
    events := [event 200#16 1#2 true, event 201#16 2#2 false] }

/-! ### Well-formedness: each check refuses an ill-formed term -/

theorem test_wf_source : (Instr.identify { call [] with source := 255#8 }).wf = false := by decide
theorem test_wf_params : (Instr.pollEvents (call (List.replicate 47 0#8))).wf = false := by decide
theorem test_wf_empty_frame : (Instr.endOfReception .a [] none).wf = false := by decide
theorem test_wf_expiry : (Instr.expiry 3 (some (.context 4))).wf = false := by decide
theorem test_wf_expiry_entry : (Instr.expiry 3 (some (.matchEntry 3))).wf = false := by decide
theorem test_wf_readMatch : (Instr.readMatch (call [0#8]) (some (.program 0))).wf = false := by decide
theorem test_wf_readSlot : (Instr.readSlot (call [0#8, 0#8]) (some (.context 0))).wf = false := by decide
theorem test_wf_readTransition : (Instr.readTransition (call [0#8, 0#8]) (some (.matchEntry 0))).wf = false := by
  decide
theorem test_wf_readContext : (Instr.readContext (call [0#8]) (some (.program 0))).wf = false := by decide
theorem test_wf_findContexts : (Instr.findContexts (call [0#8, 0#8]) (some (.program 0))).wf = false := by decide
theorem test_wf_endContext : (Instr.endContext (call [0#8]) (some (.matchEntry 0))).wf = false := by decide
theorem test_wf_accepts :
    (Instr.endContext { call (List.replicate 46 0#8) with source := 254#8 } (some (.context 95))).wf = true := by
  decide

/-! ### The formats -/

/-- R2: "give the check code 29B1h". -/
theorem test_crc : crc [0x31#8, 0x32#8, 0x33#8, 0x34#8, 0x35#8, 0x36#8, 0x37#8, 0x38#8, 0x39#8] = 0x29B1#16 := by
  decide
/-- Section 8.7, step 3: "Its sequence is 2, which is 18 modulo 16". -/
theorem test_reportSequence : (reportFrame 5#8 (reporting .queued base)).take 5 = [5#8, 253#8, 62#8, 2#8, 16#8] := by
  decide

/-! ### The commands -/

theorem test_powerOn : (after .powerOn watching).slots = State.reset.slots := by decide
theorem test_resetLineAsserted :
    (after .resetLineAsserted watching).resetHeld = true ∧ (after .resetLineAsserted watching).portA.up = false := by
  decide
theorem test_resetLineReleased :
    (after .resetLineReleased (after .resetLineAsserted watching)).resetCause = .resetLine := by decide
theorem test_linkUp : (after (.linkUp .b) State.reset).portB.up = true := by decide
/-- R9: a frame that waits is flushed and counted. -/
theorem test_linkDown :
    (after (.linkDown .a) { base with portA := upPort none [[1#8]] }).portA.counters.linkDownFlushes = 1 := by decide
theorem test_startOfReception :
    (after (.startOfReception .a) { base with portA := { base.portA with receiving := false } }).portA.receiving =
      true := by decide
/-- R5 check 1: six bytes are too short. -/
theorem test_endOfReception_short :
    (after (.endOfReception .a (List.replicate 6 0#8) none) base).portA.counters.malformed = 1 := by decide
/-- R7: in BYPASS the frame goes to the other port's queue. -/
theorem test_endOfReception_transit :
    (after (.endOfReception .a (frame 1#8 2#8 3#6 4#4).raw none) base).portB.queue =
      [(frame 1#8 2#8 3#6 4#4).raw] := by decide
/-- R14: the head of the transit queue leaves when no local frame waits. -/
theorem test_endOfTransmission :
    (after (.endOfTransmission .a) { base with portA := upPort (some []) [[7#8]] }).portA.sending = some [7#8] := by
  decide
theorem test_tick_wraps : (after (.tick .timeBase) { base with tick := 0xFFFFFFFF#32 }).tick = 0 := by decide
/-- R117: the context at the timeout target END is freed at its deadline. -/
theorem test_expiry : (after (.expiry 0 none) { watching with tick := 100#32 }).context 0 = none := by decide
theorem test_leaseRunOut :
    (after .leaseRunOut { held with lock := some ⟨1#8, 5000#16, 1#16⟩, managementTickOwed := true }).lock = none := by
  decide
/-- R146: below the retry limit the report is QUEUED again. -/
theorem test_retryTimerRunOut :
    let s := reporting .awaitAck base
    (after .retryTimerRunOut
      { s with reportTickOwed := true, report := { s.report with retryTimer := 1#16 } }).report.phase = .queued := by
  decide
theorem test_gapTimerRunOut :
    let s := reporting .gap base
    (after .gapTimerRunOut
      { s with reportTickOwed := true, report := { s.report with gapTimer := 1#16 } }).report.phase = .idle := by decide
/-- R143: the next serial is taken and the lost count passes into the report. -/
theorem test_assembly :
    let t := after .assembly { reporting .idle base with lostCount := 3#8 }
    t.report.serial = 19#16 ∧ t.report.captured = 3#8 ∧ t.lostCount = 0 := by decide
theorem test_drainCompletion :
    let s := { draining with
      contexts := State.reset.contexts
      slots := State.reset.slots.set 0 { slotWith (.draining image) with contextCount := 0 } }
    (after .drainCompletion s).staging = .empty ∧ ((after .drainCompletion s).slot 0).generation = 2#8 := by decide
/-- R169: 28 bytes of data follow code, tag and status. -/
theorem test_identify :
    (answer (after (.identify (call [])) held)).take 7 = [0x01#8, 9#8, 0x00#8, 0x0C#8, 0x96#8, 0x01#8, 253#8] ∧
      (answer (after (.identify (call [])) held)).length = 31 := by decide
/-- R165 step 2: a length of 0 stands for 5000. -/
theorem test_claim : (after (.claim (call [0#8, 0#8])) base).lock = some ⟨1#8, 5000#16, 5000#16⟩ := by decide
theorem test_claim_range : answer (after (.claim (call [0#8, 9#8])) base) = [0x02#8, 9#8, 0x05#8] := by decide
theorem test_release : (after (.release (call [])) held).lock = none := by decide
theorem test_setAddress : (after (.setAddress (call [12#8])) held).ownAddress = 12#8 := by decide
theorem test_setManagers : answer (after (.setManagers (call [2#8])) held) = [0x05#8, 9#8, 0x04#8] := by decide
theorem test_restart :
    let t := after (.restart (call [])) watching
    t.context 0 = none ∧ t.resetCause = .restart ∧ t.responses.length = 1 := by decide
/-- R39: the data are the former mode and the number of contexts that the change ended. -/
theorem test_setMode :
    answer (after (.setMode (call [0#8, 1#8])) watching) = [0x10#8, 9#8, 0x00#8, 0x01#8, 0x01#8] := by decide
theorem test_clearFault :
    answer (after (.clearFault (call [])) { held with faultLatch := some (.program 3) }) =
      [0x11#8, 9#8, 0x00#8, 0x01#8] := by decide
theorem test_writeMatch :
    (after (.writeMatch (call [47#8, 1#8, 2#8, 1#8, 0#8, 0#8, 255#8, 0#8, 63#8, 2#8, 7#8])) held).entry 47 =
      ⟨true, .both, none, some 255#8, 0#6, 63#6, .watch 7, 0⟩ := by decide
/-- R42: an entry that was invalidated by a fault returns its cleared values. -/
theorem test_readMatch :
    answer (after (.readMatch (call [0#8]) (some (.matchEntry 0))) watching) =
      [0x13#8, 9#8, 0#8, 0#8, 2#8, 1#8, 0#8, 1#8, 0#8, 0#8, 63#8, 0#8, 0#8, 0#8, 0#8, 0#8, 0#8] := by decide
theorem test_stageBegin : (after (.stageBegin (call [])) held).staging = .opened clearedImage := by decide
theorem test_stageHeader :
    answer (after (.stageHeader (call [17#8, 0#8, 0#8, 17#8, 0#8, 255#8, 0#8])) held) = [0x21#8, 9#8, 0x05#8] := by
  decide
theorem test_stageState :
    answer (after (.stageState (call [15#8, 0#8, 1#8, 16#8, 255#8, 0#8, 1#8, 15#8])) held) =
      [0x22#8, 9#8, 0x06#8] := by decide
theorem test_stageTransition :
    answer (after (.stageTransition (call [47#8])) { held with staging := .opened image }) = [0x23#8, 9#8, 0x00#8] := by
  decide
/-- R178: in DRAIN mode an ACTIVE slot with a context begins to drain. -/
theorem test_stageCommit :
    answer (after (.stageCommit (call [0#8, 1#8])) { watching with staging := .opened image }) =
      [0x24#8, 9#8, 0x00#8, 0x02#8, 0x01#8, 0x01#8] := by decide
theorem test_stageCommit_invalid :
    answer (after (.stageCommit (call [0#8, 0#8])) { held with staging := .opened clearedImage }) =
      [0x24#8, 9#8, 0x07#8, 0x01#8, 0x00#8, 0xFF#8] := by decide
theorem test_stageAbort :
    ((after (.stageAbort (call [])) draining).slot 0).status = .active image := by decide
theorem test_eraseSlot :
    answer (after (.eraseSlot (call [0#8])) watching) = [0x26#8, 9#8, 0x00#8, 0x01#8, 0x01#8] := by decide
theorem test_readSlot :
    (answer (after (.readSlot (call [0#8, 1#8]) none) watching)).length = 3 + 6 + 7 + 8 := by decide
theorem test_readTransition :
    answer (after (.readTransition (call [0#8, 3#8]) none) watching) =
      [0x28#8, 9#8, 0x00#8, 0x01#8, 0x01#8, 3#8, 0x00#8] := by decide
/-- R84: a free context returns its index and 00h. -/
theorem test_readContext :
    answer (after (.readContext (call [95#8]) none) watching) = [0x30#8, 9#8, 0x00#8, 95#8, 0x00#8] := by decide
theorem test_findContexts :
    answer (after (.findContexts (call [255#8, 0#8]) none) watching) =
      [0x31#8, 9#8, 0x00#8, 0x01#8, 0x00#8, 0x00#8] := by decide
theorem test_endContext :
    answer (after (.endContext (call [0#8]) none) watching) =
      [0x32#8, 9#8, 0x00#8, 0#8, 1#8, 10#8, 20#8, 0#8, 0x01#8] := by decide
theorem test_readPortCounters :
    (answer (after (.readPortCounters (call [1#8])) base)).length = 3 + 45 := by decide
theorem test_readSlotCounters :
    (answer (after (.readSlotCounters (call [7#8])) base)).length = 3 + 34 := by decide
theorem test_clearCounters :
    answer (after (.clearCounters (call [0x18#8])) held) = [0x42#8, 9#8, 0x05#8] := by decide
theorem test_pollEvents :
    (answer (after (.pollEvents (call [])) { base with events := [event 7#16 3#2 false], lostCount := 2#8 })).take 7 =
      [0x50#8, 9#8, 0x00#8, 1#8, 2#8, 0#8, 7#8] := by decide
theorem test_readAlarms :
    (answer (after (.readAlarms (call [])) watching)).take 6 = [0x51#8, 9#8, 0x00#8, 1#8, 0#8, 0#8] := by decide
theorem test_clearAlarms :
    answer (after (.clearAlarms (call [0x03#8])) { held with
      slots := State.reset.slots.set 1 { slotWith (.active image) with latched := true } }) =
      [0x52#8, 9#8, 0x00#8, 0x02#8] := by decide
theorem test_setCollector :
    (after (.setCollector (call [0#8, 5#8, 0#8, 0#8, 0#8, 100#8, 2#8, 0#8, 20#8])) held).collector =
      ⟨some (5#8, .a), .ack, 100#16, 2#3, 20#16⟩ := by decide
/-- R148: delivery removes the pinned events and begins the pacing gap. -/
theorem test_reportAck :
    let t := after (.reportAck { call [0#8, 18#8] with source := 5#8 }) (reporting .awaitAck base)
    t.report.phase = .gap ∧ t.events.map Event.serial = [201#16] := by decide
theorem test_readReportStatus :
    (answer (after (.readReportStatus (call [])) base)).length = 3 + 26 := by decide

/-! ### Witnesses: for each obligation with hypotheses, a state and operands that meet them, clause by clause -/

/-- For ResetsLoadAndHoldThePart. -/
theorem witness_resetHeld :
    (let s := { State.reset with resetHeld := true };
      s.resetHeld = true ∧ ∀ q ∈ [Port.a, Port.b], (s.port q).up = false) ∧ State.reset.resetHeld = false := by decide

/-- For CheckCodeIsTheCrc: both ends of the body's range. -/
theorem witness_checkCode :
    crc (List.replicate 5 0#8) ≠ 0#8 ++ 0#8 ∧ crc (List.replicate 53 0#8) ≠ 0#8 ++ 0#8 := by decide

/-- For BuiltFramesAreReadBack, and a frame of 48 payload bytes is indeed good. -/
theorem witness_builtFrames :
    (List.replicate 48 7#8).length ≤ 48 ∧ 254#8 ≠ 255#8 ∧
      ingress (buildFrame 255#8 254#8 63#6 15#4 (List.replicate 48 7#8)) ≠ .malformed := by decide

/-- For PortsRiseAndReceive. -/
theorem witness_portsRise :
    (State.reset.resetHeld = false ∧ (State.reset.port .a).up = false ∧ (State.reset.port .a).receiving = false) ∧
      (base.port .a).up = true ∧ ({ State.reset with resetHeld := true }).resetHeld = true := by decide

/-- For LinkDownClearsThePort: a DOWN port, an UP port, and one where a report waits. -/
theorem witness_linkDown :
    (State.reset.port .b).up = false ∧ (base.port .b).up = true ∧
      (let s := reporting .queued base;
        (s.port .a).up = true ∧ s.report.phase = .queued ∧ s.collector.target.map Prod.snd = some .a) := by decide

/-- For IngressChecksCountAFrameOnce: each clause at its boundary. -/
theorem witness_ingress :
    (base.port .a).up = true ∧ (base.port .a).receiving = true ∧
      (List.replicate 6 0#8).length < 7 ∧ 55 < (List.replicate 56 0#8).length ∧
      (let bytes := List.replicate 7 0#8;
        7 ≤ bytes.length ∧ bytes16 (crc (bytes.take (bytes.length - 2))) ≠ bytes.drop (bytes.length - 2)) ∧
      (let bytes := List.replicate 55 0#8;
        bytes.length ≤ 55 ∧ bytes16 (crc (bytes.take (bytes.length - 2))) ≠ bytes.drop (bytes.length - 2)) ∧
      (∀ head ∈ [[1#8, 2#8, 64#8, 0#8, 0#8], [1#8, 2#8, 63#8, 16#8, 0#8], [1#8, 2#8, 63#8, 15#8, 49#8],
          [1#8, 2#8, 63#8, 15#8, 1#8], [1#8, 255#8, 63#8, 15#8, 0#8], [1#8, 1#8, 63#8, 15#8, 0#8],
          [1#8, 254#8, 63#8, 15#8, 0#8]],
        let bytes := sealed head
        7 ≤ bytes.length ∧ bytes.length ≤ 55 ∧
          bytes16 (crc (bytes.take (bytes.length - 2))) = bytes.drop (bytes.length - 2)) := by decide

/-- For LocalFramesAreRequestsOrDiscarded, with the longest payload and another kind. -/
theorem witness_localFrames :
    arrives (call (List.replicate 46 0#8)) base ∧ (base.port .a).receiving = true ∧
      (List.replicate 48 0#8).length ≤ 48 ∧ 59#6 ≠ 60#6 := by decide

/-- For TransitFramesMeetTheirFate: the frame, the four states of the other port, and the verdicts in their modes. -/
theorem witness_transit :
    let f := frame 1#8 2#8 3#6 4#4
    ingress f.raw = .good f ∧ f.dest ≠ base.ownAddress ∧ base.mode = .bypass ∧ (base.port .a).up = true ∧
      (base.port .a).receiving = true ∧
      (({ base with portB := .reset }).port .b).up = false ∧
      (let q := upPort (some []) (List.replicate 8 []);
        q.up = true ∧ 8 ≤ q.queue.length) ∧
      (let q := upPort (some []) (List.replicate 7 []);
        q.up = true ∧ q.queue.length < 8 ∧ q.sending ≠ none) ∧
      ((quiet.port .b).queue = [] ∧ (quiet.port .b).sending = none ∧ localEmpty .b quiet = true) ∧
      ∀ m ∈ [Mode.monitor, Mode.enforce],
        let s := { base with mode := m, defaultAction := .drop }
        s.mode ≠ .bypass ∧
          (classify .a f none ((received .a s).count .a .goodFrames 1)).verdict = some .drop ∧
          (classify .a f none ((received .a { s with defaultAction := .pass }).count .a .goodFrames 1)).verdict ≠
            some .drop := by decide

/-- A response that waits at port A. -/
def waiting : Response := ⟨[3#8], .a, 1#8, 5#4, none, none⟩

/-- For ArbiterSelectsTheNextFrame: nothing waits; a response at an empty queue and at count 4; a report in both modes;
a transit frame with and without a local frame. -/
theorem witness_arbiter :
    (quiet.port .a).sending = none ∧ (base.port .a).sending ≠ none ∧ (base.port .a).up = true ∧
      (base.port .a).queue = [] ∧ localEmpty .a base = true ∧
      (let s := { base with responses := [{ waiting with port := .b }, waiting] };
        s.responses = [{ waiting with port := .b }] ++ waiting :: [] ∧
          (∀ b ∈ [{ waiting with port := Port.b }], b.port ≠ .a) ∧ waiting.port = .a ∧
          { base.portA with queue := [[7#8]], consecutive := 4 }.consecutive = 4) ∧
      (let s := reporting .queued base;
        (∀ b ∈ s.responses, b.port ≠ .a) ∧ s.report.phase = .queued ∧ s.collector.target = some (5#8, .a) ∧
          s.collector.ackMode = .ack ∧ (s.port .a).queue = [] ∧ (s.port .a).up = true ∧
          ({ s.collector with ackMode := .noAck }).ackMode = .noAck) ∧
      (let s := { base with portA := upPort (some []) [[7#8], [8#8]] };
        (s.port .a).queue = [7#8] :: [[8#8]] ∧ localEmpty .a s = true ∧
          ({ s with responses := [waiting] }.port .a).consecutive ≠ 4) := by decide

/-- For ResponsesLeaveWithinFiveTransmissions, at both ends of the count's range. -/
theorem witness_responses :
    ∀ n ∈ [0, 4],
      let s := { base with
        portA := { upPort (some []) [[7#8]] with consecutive := n }, responses := [waiting] }
      (s.port .a).up = true ∧ (s.port .a).sending ≠ none ∧ (s.port .a).consecutive ≤ 4 ∧
        s.responses = [] ++ waiting :: [] ∧ waiting.port = .a := by decide

/-- One valid entry, at index `i`. -/
def admitting (i : EntryIndex) : State := base.setEntry i ⟨true, .both, none, some 2#8, 3#6, 3#6, .drop, 0⟩

/-- For FirstMatchingEntryDecides: the first and the last entry, and no entry; each of them with damage above it, with
damage of another kind, and with a damaged entry that the scan reaches (the first; the last, below which none admits). -/
theorem witness_firstMatch :
    ((∀ j ≤ (0 : EntryIndex), some (Location.matchEntry 1) ≠ some (.matchEntry j)) ∧
      (∀ j ≤ (47 : EntryIndex), some (Location.program 0) ≠ some (.matchEntry j)) ∧
      (∀ j ≤ (46 : EntryIndex), some (Location.matchEntry 47) ≠ some (.matchEntry j)) ∧
      ∀ j : EntryIndex, ¬j < 0) ∧
    (∀ i ∈ [(0 : EntryIndex), 47], entryAdmits .a (frame 1#8 2#8 3#6 4#4) ((admitting i).entry i)) ∧
      (∀ j : EntryIndex, j < 47 → ¬entryAdmits .a (frame 1#8 2#8 3#6 4#4) ((admitting 47).entry j)) ∧
      ∀ i : EntryIndex, ¬entryAdmits .a (frame 1#8 2#8 3#6 4#4) (base.entry i) := by
  refine ⟨?_, ?_, ?_, ?_⟩ <;> decide

/-- For WatchedFramesAreHeldOnAlarm: the slot EMPTY, ACTIVE and DRAINING, a broadcast, a sound frame with the latch set
and clear, a faulty read. -/
theorem witness_watched :
    let f := frame 10#8 20#8 2#6 5#4
    let s := { watching with slots := watching.slots.set 0 { slotWith (.active image) with latched := true } }
    (base.slot 0).status = .empty ∧ (watching.slot 0).status = .active image ∧
      (draining.slot 0).status = .draining image ∧ (frame 1#8 255#8 3#6 4#4).dest = 255#8 ∧
      f.dest ≠ 255#8 ∧ lookup 0 f.source f.dest s = some 0 ∧
      (∀ i : ContextIndex, lookup 0 f.source f.dest s = some i → some (Location.context 1) ≠ some (.context i)) ∧
      ((evaluateSound 0 image false f s).state.slot 0).latched = true ∧ image.header.holdOnAlarm = true ∧
      ((evaluateSound 0 image false (frame 11#8 20#8 1#6 5#4) watching).state.slot 0).latched = false := by decide

/-- For IntegrityFaultLeavesBypass: both modes; an ACTIVE slot; a DRAINING slot with the buffer PENDING for it and one
context; no buffer PENDING. -/
theorem witness_integrity :
    watching.mode ≠ .bypass ∧ held.mode = .bypass ∧ (watching.slot 0).status = .active image ∧
      (draining.mode ≠ .bypass ∧ draining.staging = .pending image 0 ∧ (draining.slot 0).status = .draining image ∧
        countsSound 0 draining ∧ 0 < (draining.slot 0).contextCount) ∧
      watching.staging = .empty := by decide

/-- Spec R36 on the DRAINING slot's only context: FAULT, then INSTALLED with generation 2, then MODE_CHANGED with 1. -/
theorem test_fault_events :
    (integrityFault (.context 0) draining).events.map (fun e => (e.body.cls, e.body.info)) =
      [(.fault, 0#8), (.installed, 2#8), (.modeChanged, 1#8)] := by decide

/-- For ValidationAcceptsFittingImages: an image that passes, and one that fails at each of the four places (R58). -/
theorem witness_validation :
    validate image = none ∧ validate clearedImage = some ⟨.noStates, .header⟩ ∧
      validate { image with states := image.states.set 1 clearedRecord } = some ⟨.timeoutUnset, .state 1⟩ ∧
      validate { image with
        positions := image.positions.set 47
          (some ⟨2, .forward, 1#6, 1#6, .any, none, .state 0, .pass, none⟩) } = some ⟨.badFrom, .transition 47⟩ ∧
      validate { image with positions := Vector.replicate 48 none } = some ⟨.noEntry, .whole⟩ := by decide

/-- For EndingContexts: a context whose slot goes on, one whose end completes a drain, a slot that loses none, one that
loses some and goes on, one whose last contexts end in a drain. -/
theorem witness_ending :
    (countContexts (fun c => c.slot == 0) draining = 1 ∧ (draining.slot 0).contextCount = 1 ∧
      countContexts (fun c => c.slot == 0) watching = 1 ∧ (watching.slot 0).status = .active image) ∧
    watching.context 0 = some context ∧
      (let s := { draining with
          slots := State.reset.slots.set 0 { slotWith (.draining image) with contextCount := 2 } };
        (s.slot context.slot).status = .draining image ∧ (s.slot context.slot).contextCount - 1 ≠ 0) ∧
      draining.context 0 = some context ∧ (draining.slot context.slot).status = .draining image ∧
      (draining.slot context.slot).contextCount - 1 = 0 ∧ draining.staging = .pending image context.slot ∧
      ∀ i : ContextIndex, ∀ c ∈ watching.context i, c.slot ≠ 7 := by decide

/-- Every context in use. -/
def full : State := { watching with contexts := Vector.replicate 96 (some context) }

/-- For AnchorsAttempted: an anchor into a state, no anchor, an anchor to END, an anchor at a full table. -/
theorem witness_anchors :
    let f := frame 11#8 20#8 1#6 5#4
    lookup 0 f.source f.dest watching = none ∧
      ((firstPosition image (anchorAccepts f)).map Transition.target = some (.state 0) ∧ freeIndex watching = some 1) ∧
      firstPosition image (anchorAccepts { f with kind := 4#6 }) = none ∧
      (firstPosition image (anchorAccepts { f with kind := 3#6 })).map Transition.target = some .finish ∧
      (lookup 0 f.source f.dest full = none ∧ freeIndex full = none) := by decide

/-- For FramesOfALiveContext: a retransmission above the limit of 1, a frame that a position accepts, one that none does,
and a frame of the other direction. -/
theorem witness_liveFrames :
    lookup 0 10#8 20#8 watching = some 0 ∧ lookup 0 20#8 10#8 watching = some 0 ∧
      watching.context 0 = some context ∧
      (context.retryCount.toNat + 1 = 2 ∧ (image.state context.state).retryLimit ≠ 15#4 ∧
        (image.state context.state).retryLimit < 2#4) ∧
      (firstPosition image (positionAccepts 0 .forward 4#4 (frame 10#8 20#8 2#6 5#4))).isSome = true ∧
      firstPosition image (positionAccepts 0 .reverse 4#4 (frame 20#8 10#8 2#6 5#4)) = none := by decide

/-- For TimeBaseCountsTheTick. -/
theorem witness_timeBase :
    watching.resetHeld = false ∧ (∀ i : ContextIndex, ∀ c ∈ watching.context i, c.deadline ≠ watching.tick) ∧
      watching.managementTickOwed = false ∧ watching.reportTickOwed = false := by decide

/-- R116, R164: the time base's tick first takes what is outstanding: the due context ends, the lease falls. -/
theorem test_tick_settles :
    (let t := after (.tick .timeBase) { watching with tick := 100#32, managementTickOwed := true };
      t.context 0 = none ∧ t.lock = some ⟨1#8, 5000#16, 6#16⟩ ∧ t.tick = 101#32) := by decide

/-- A lease with `n` ticks remaining, and a tick to take. -/
def leased (n : Word16) : State := { held with managementTickOwed := true, lock := some ⟨1#8, 5000#16, n⟩ }

/-- For LeaseFallsAndRunsOut: no tick to take; the lock FREE; a lease of 2 and of 1. -/
theorem witness_lease :
    held.managementTickOwed = false ∧ base.lock = none ∧ (leased 1#16).managementTickOwed = true ∧
      (leased 1#16).lock = some ⟨1#8, 5000#16, 1#16⟩ ∧ (leased 2#16).lock = some ⟨1#8, 5000#16, 2#16⟩ ∧
      (1#16).toNat ≤ 1 ∧ 1 < (2#16).toNat := ⟨rfl, rfl, rfl, rfl, rfl, by decide, by decide⟩

/-- For ReportTimersFallAndRunOut: each phase, the timers at 2 and at 1, the retry count below and at the limit, the port
SENDING, IDLE and DOWN. -/
theorem witness_reportTimers :
    (reporting .awaitAck base).report.phase = .awaitAck ∧ (reporting .awaitAck base).reportTickOwed = false ∧
      (let s := { reporting .awaitAck base with reportTickOwed := true };
        s.reportTickOwed = true ∧ s.report.retryTimer.toNat ≤ 1 ∧ s.report.retryCount < s.collector.retryLimit ∧
          s.collector.target = some (5#8, .a) ∧ (s.port .a).up = true ∧ (s.port .a).sending ≠ none ∧
          (({ s with portA := .reset }).port .a).up = false ∧
          s.collector.retryLimit ≤ ({ s.report with retryCount := 2#3 }).retryCount ∧
          1 < ({ s.report with retryTimer := 2#16 }).retryTimer.toNat) ∧
      (let s := reporting .awaitAck quiet;
        (s.port .a).up = true ∧ (s.port .a).sending = none ∧ (s.port .a).queue = [] ∧
          (∀ x ∈ s.responses, x.port ≠ .a) ∧ s.collector.ackMode = .ack) ∧
      (reporting .gap base).reportTickOwed = false ∧
      (let s := { reporting .gap base with reportTickOwed := true };
        s.report.phase = .gap ∧ s.report.gapTimer.toNat ≤ 1 ∧
          1 < ({ s.report with gapTimer := 2#16 }).gapTimer.toNat) ∧
      ((reporting .queued base).report.phase ≠ .gap ∧ (reporting .queued base).report.phase ≠ .awaitAck) := by decide

/-- For ExpiryAppliesTheTimeoutTarget: a free index, a context that is not due, a due one with each item sound or
damaged, and both kinds of timeout target. -/
theorem witness_expiry :
    watching.context 1 = none ∧ watching.context 0 = some context ∧ context.deadline ≠ watching.tick ∧
      (let s := { watching with tick := 100#32 };
        s.context 0 = some context ∧ context.deadline = s.tick ∧
          (s.slot context.slot).status.image = some image ∧ (image.state context.state).target = .finish ∧
          (image.state ({ context with state := 1 }).state).target = .state 0) := by decide

/-- For InstallsAndCompletedDrains: a drain that is done, one that is not, no drain. -/
theorem witness_drain :
    (draining.staging = .pending image 0 ∧ (draining.slot 0).status = .draining image ∧
        (draining.slot 0).contextCount ≠ 0 ∧
        ({ slotWith (.draining image) with contextCount := 0 }).contextCount = 0) ∧
      watching.staging = .empty ∧ (1 : Nat) < image.header.stateCount.val := by decide

/-- A full queue: 31 events at level 2 and, last, one at level 1. -/
def crowded : List Event :=
  (List.range 31).map (fun n => event (BitVec.ofNat 16 (n + 100)) 2#2 false) ++ [event 200#16 1#2 false]

/-- For OffersAreAdmittedDisplaceOrAreLost: a collision, room for one more, a full queue with the newest event of the
lowest level, and a queue of pinned events. -/
theorem witness_offers :
    (let s := { base with events := [event 0#16 1#2 false] };
      (∃ x ∈ s.events, x.serial = s.nextSerial) ∧ s.events.length < 32) ∧
      ((∀ x ∈ base.events, x.serial ≠ base.nextSerial) ∧ (crowded.take 31).length < 32) ∧
      (32 ≤ crowded.length ∧ (∀ y ∈ crowded, y.pinned = false → 1#2 ≤ y.body.level) ∧
        crowded.getLast? = some (event 200#16 1#2 false) ∧ 1#2 < 2#2 ∧ 1#2 ≤ 1#2) ∧
      (32 ≤ (crowded.map (fun e => { e with pinned := true })).length ∧
        ∀ y ∈ crowded.map (fun e => { e with pinned := true }), y.pinned = true) := by decide

/-- For SelectionTakesTheHighestThenTheEarliest: an event is left behind, another taken. -/
theorem witness_selection :
    event 200#16 1#2 false ∈ crowded ∧ event 200#16 1#2 false ∉ selected crowded ∧
      event 100#16 2#2 false ∈ selected crowded := by decide

/-- For AssemblyBuildsAReport: the three conditions that fail, and the two ports at which it is built, in both modes. -/
theorem witness_assembly :
    base.report.phase ≠ .idle ∧ (∀ e ∈ base.events, e.pinned = true) ∧
      (∀ t ∈ (reporting .idle State.reset).collector.target, ((reporting .idle State.reset).port t.2).up = false) ∧
      (let s := reporting .idle quiet;
        ({ s with collector := { s.collector with ackMode := .noAck } }).collector.ackMode = .noAck) ∧
      ∀ s ∈ [reporting .idle base, reporting .idle quiet],
        s.report.phase = .idle ∧ (∃ e ∈ s.events, e.pinned = false) ∧ s.collector.target = some (5#8, .a) ∧
          (s.port .a).up = true ∧
          ((s.port .a).sending ≠ none ∨
            ((s.port .a).sending = none ∧ (s.port .a).queue = [] ∧ (∀ r ∈ s.responses, r.port ≠ .a) ∧
              s.collector.ackMode = .ack)) := by decide

/-- For AnswersArePlacedAndCached: a port that sends, and a free one. -/
theorem witness_answers :
    (base.port .a).up = true ∧ (base.port .a).sending ≠ none ∧ (quiet.port .a).up = true ∧
      (quiet.port .a).sending = none ∧ (quiet.port .a).queue = [] ∧ localEmpty .a quiet = true := by decide

/-- A cache entry that `call []` repeats as a RELEASE. -/
def repeated : CacheEntry := ⟨1#8, 5#4, codeByte .release, 9#8, [0x03#8, 9#8, 0x00#8]⟩

/-- For FullSlotsAndRepeats: both slots occupied; a repeat with its response waiting or gone. -/
theorem witness_repeats :
    (arrives (call []) base ∧ 2 ≤ [waiting, waiting].length) ∧
      (let s := { base with cache := [{ repeated with source := 2#8 }, repeated] };
        arrives (call []) s ∧ s.responses.length < 2 ∧ s.cache = [{ repeated with source := 2#8 }] ++ repeated :: [] ∧
          (∀ b ∈ [{ repeated with source := 2#8 }], b.source ≠ (call []).source) ∧
          repeated.source = (call []).source ∧ repeated.sequence = (call []).sequence ∧
          repeated.code = codeByte .release ∧ repeated.tag = (call []).tag ∧
          (∃ r ∈ [{ waiting with code := some 0x03#8, tag := some 9#8 }],
            r.requester = (call []).source ∧ r.sequence = (call []).sequence ∧
              r.code = some (codeByte .release) ∧ r.tag = some (call []).tag) ∧
          ¬∃ r ∈ s.responses, r.requester = (call []).source) := by decide

/-- For RequestsAreRefusedInOrder: not on the list; without the lock; with a wrong length; without a tag; with an unknown
code. -/
theorem witness_refused :
    (arrives (call []) base ∧ fresh .release (call []) base) ∧
      ¬listAdmits (call []) { base with managers := [2#8] } ∧
      (listAdmits (call []) base ∧ authority .release = .lock ∧ ¬holds (call []) base) ∧
      (mayCommand .release (call [0#8]) held ∧ acceptsLength .release (call [0#8]).params.length = false) ∧
      base.responses.length < 2 ∧ [0x01#8].length < 2 ∧
      (∀ c ∈ requestCodes, codeByte c ≠ 0x99#8) ∧
      ∀ e ∈ base.cache, ¬(e.source = 1#8 ∧ e.sequence = 5#4 ∧ e.code = 0x99#8 ∧ e.tag = 9#8) := by decide

/-- For every statement about a request: it may arrive, be asked and be commanded, whatever its code. -/
theorem witness_requests (c : RequestCode) :
    mayCommand c (call []) held ∧ mayCommand c (call []) watching ∧ mayAsk c (call []) base := by
  refine ⟨?_, ?_, ?_⟩ <;> cases c <;> decide

/-- For ClaimTakesAFreeLock: the lock FREE, with the requester, with another. -/
theorem witness_claim :
    mayAsk .claim (call [0#8, 0#8]) base ∧ base.lock = none ∧ mayAsk .claim (call [0#8, 0#8]) held ∧
      holds (call []) held ∧
      mayAsk .claim (call [0#8, 0#8]) { base with lock := some ⟨2#8, 5000#16, 7#16⟩ } ∧ 2#8 ≠ (call []).source := by
  decide

/-- For ClaimTakesAFreeLock: lengths at the ends of their ranges. -/
theorem witness_claimLengths :
    ((word16 0#8 1#8).toNat = 1 ∧ (word16 0#8 9#8).toNat = 9 ∧ (word16 0xEA#8 0x61#8).toNat = 60001) ∧
      (word16 0#8 10#8).toNat = 10 ∧ (word16 0xEA#8 0x60#8).toNat = 60000 := by decide

/-- For LockAddressAndListAreChanged: the parameters of each clause. -/
theorem witness_lists :
    mayCommand .setManagers (call [1#8, 2#8, 3#8, 4#8]) held ∧ (call [1#8, 2#8, 3#8, 4#8]).params.length ≤ 4 ∧
      255#8 ∈ [255#8] ∧ (255#8 ∉ [1#8, 1#8] ∧ ¬[1#8, 1#8].Nodup) ∧
      (255#8 ∉ [2#8] ∧ [2#8].Nodup ∧ [2#8] ≠ [] ∧ (call []).source ∉ [2#8]) ∧
      ((call []).source ∈ [1#8, 2#8, 3#8, 4#8] ∧ [1#8, 2#8, 3#8, 4#8].Nodup) ∧ 254#8 ≠ 255#8 := by decide

/-- For RestartClearsTheRunningState: an ACTIVE slot, a drain, a slot without contexts, EMPTY; live counts that agree with
the table; a report that waits at its port and one that does not. -/
theorem witness_restart :
    ((watching.slot 7).status = .empty ∧ countsSound 0 watching ∧ countsSound 7 watching) ∧
    mayCommand .restart (call []) watching ∧ (watching.slot 0).status = .active image ∧
      mayCommand .restart (call []) draining ∧ draining.staging = .pending image 0 ∧
      (draining.slot 0).status = .draining image ∧
      ∀ i : ContextIndex, ∀ c ∈ watching.context i, c.slot ≠ 7 := by decide

/-- For SetModeChangesTheMode: out of range, refused after a fault, no change, a change to MONITOR and to BYPASS. -/
theorem witness_setMode :
    (2 < (3#8).toNat ∧ 1 < (2#8).toNat) ∧ ({ held with faultLatch := some (.program 3) }).faultLatch ≠ none ∧
      (held.faultLatch = none ∧ Mode.bypass = held.mode) ∧ (Mode.monitor ≠ held.mode ∧ Mode.monitor ≠ .bypass) ∧
      Mode.bypass ≠ watching.mode := by decide

/-- For SettingsAreReadBack: an entry; both ends of the settings' ranges; bytes that are not stored (R41, R141). -/
theorem witness_readBack :
    ((0#6) ≤ 63#6 ∧ (none : Option Byte) ≠ some 255#8) ∧
      (10 ≤ (10#16).toNat ∧ (1000#16).toNat ≤ 1000) ∧
      (parseCollector [0#8, 5#8, 1#8, 0#8, 0#8, 10#8, 7#8, 3#8, 232#8]).isSome = true ∧
      parseCollector [1#8, 255#8, 9#8, 1#8, 0#8, 10#8, 0#8, 0#8, 0#8] = some ⟨none, .noAck, 10#16, 0#3, 0#16⟩ ∧
      parseEntry [47#8, 1#8, 2#8, 1#8, 255#8, 1#8, 9#8, 0#8, 63#8, 1#8, 200#8] =
        some (47, ⟨true, .both, none, none, 0#6, 63#6, .drop, 0⟩) ∧
      parseEntry [47#8, 1#8, 2#8, 0#8, 255#8, 1#8, 9#8, 0#8, 63#8, 1#8, 200#8] = none := by decide

/-- For ImagePartsAreReadFromTheirBytes: bytes that are not stored (R175), and a value out of range for each part. -/
theorem witness_imageParts :
    parseHeader [0#8, 0#8, 1#8, 0x11#8, 0#8, 0xFF#8, 77#8] = some ⟨0, false, .drop, ⟨.stay, .pass, none⟩⟩ ∧
      parseState [15#8, 1#8, 2#8, 0x10#8, 3#8, 77#8, 1#8, 15#8] =
        some (15, ⟨258#16, .finish, some ⟨3#2, 77#8⟩, true, 15#4⟩) ∧
      parseTransition [47#8, 15#8, 1#8, 63#8, 0#8, 3#8, 0#8, 200#8, 1#8, 2#8, 0#8, 1#8, 0xFF#8, 9#8] =
        some (47, ⟨15, .reverse, 63#6, 0#6, .new, none, .state 0, .drop, none⟩) ∧
      parseHeader [17#8, 0#8, 0#8, 0#8, 0#8, 0#8, 0#8] = none ∧
      parseState [0#8, 0#8, 0#8, 0x11#8, 0#8, 0#8, 0#8, 0#8] = none ∧
      parseTransition [0#8, 0#8, 0#8, 0#8, 0#8, 0#8, 1#8, 48#8, 0#8, 0#8, 0#8, 0#8, 0#8, 0#8] = none := by decide

/-- For MatchEntriesAreWrittenAndRead: parameters that are taken, and some that are not; both ends of the index. -/
theorem witness_match :
    mayCommand .writeMatch (call (List.replicate 11 0#8)) held ∧
      parseEntry (List.replicate 11 0#8) = some (0, ⟨false, .a, some 0#8, some 0#8, 0#6, 0#6, .pass, 0⟩) ∧
      parseEntry (List.replicate 11 255#8) = none ∧ mayAsk .readMatch (call [47#8]) base ∧ (47#8).toNat < 48 ∧
      48 ≤ (48#8).toNat := by decide

/-- For StagingOpensAndAborts: the three states of the buffer. -/
theorem witness_staging :
    held.staging = .empty ∧ ({ held with staging := .opened image }).staging = .opened image ∧
      mayCommand .stageAbort (call []) draining ∧ draining.staging = .pending image 0 ∧
      (draining.slot 0).status = .draining image := by decide

/-- For StageWritesReplaceOnePart: each form's length, and a position at each side of the end of the range. -/
theorem witness_stageWrites :
    mayCommand .stageHeader (call (List.replicate 7 0#8)) held ∧
      mayCommand .stageState (call (List.replicate 8 0#8)) held ∧
      mayCommand .stageTransition (call (List.replicate 14 0#8)) held ∧
      mayCommand .stageTransition (call [47#8]) held ∧ 47#8 = BitVec.ofNat 8 (47 : Position).val ∧
      48 ≤ (48#8).toNat ∧ (parseHeader (List.replicate 7 0#8)).isSome = true ∧
      parseHeader (List.replicate 7 255#8) = none := by
  refine ⟨?_, ?_, ?_, ?_, ?_, ?_, ?_⟩ <;> decide

/-- For CommitInstallsOrDrains: out of range, not OPEN, an invalid image, a drain, and the three ways to install. -/
theorem witness_commit :
    (8 ≤ (8#8).toNat ∧ 1 < (2#8).toNat) ∧ held.staging = .empty ∧ (validate clearedImage).isSome = true ∧
      validate image = none ∧
      (let s := { watching with staging := .opened image };
        mayCommand .stageCommit (call [0#8, 1#8]) s ∧ s.staging = .opened image ∧
          0#8 = BitVec.ofNat 8 (0 : SlotIndex).val ∧ (s.slot 0).status = .active image ∧ (s.slot 0).contextCount ≠ 0 ∧
          (s.slot 7).status = .empty ∧ (s.slot 7).contextCount = 0) := by decide

/-- For EraseEmptiesAnActiveSlot: out of range, EMPTY, DRAINING, ACTIVE. -/
theorem witness_erase :
    8 ≤ (8#8).toNat ∧ 7#8 = BitVec.ofNat 8 (7 : SlotIndex).val ∧ (watching.slot 7).status = .empty ∧
      mayCommand .eraseSlot (call [0#8]) draining ∧ (draining.slot 0).status = .draining image ∧
      mayCommand .eraseSlot (call [0#8]) watching ∧ (watching.slot 0).status = .active image := by decide

/-- For ReadsReturnSlotsAndContexts: indices at each side of the ends of their ranges, an EMPTY and an ACTIVE slot. -/
theorem witness_reads :
    (8 ≤ (8#8).toNat ∧ 16 ≤ (16#8).toNat ∧ 48 ≤ (48#8).toNat ∧ 96 ≤ (96#8).toNat) ∧
      (7#8 = BitVec.ofNat 8 (7 : SlotIndex).val ∧ 15#8 = BitVec.ofNat 8 (15 : StateIndex).val ∧
        47#8 = BitVec.ofNat 8 (47 : Position).val ∧ 95#8 = BitVec.ofNat 8 (95 : ContextIndex).val) ∧
      ((afterRead (watching.slot 7).status.image.isSome (.program 7) none (renewed (call []) watching)).slot 7).status =
        .empty ∧
      ((afterRead (watching.slot 0).status.image.isSome (.program 0) none
        (renewed (call []) watching)).slot 0).status.image = some image := by decide

/-- For FindContextsListsTwenty: out of range at each side, and a damaged context that the scan passes or does not. -/
theorem witness_find :
    ((8 ≤ (8#8).toNat ∧ 8#8 ≠ 255#8) ∧ 8 ≤ (254#8).toNat ∧ 96 ≤ (96#8).toNat) ∧
      ((7#8).toNat < 8 ∧ 255#8 = 255#8 ∧ (95#8).toNat < 96) ∧
      ((0#8).toNat ≤ (0 : ContextIndex).val ∧ (watching.context 0).isSome = true) ∧
      ¬(1#8).toNat ≤ (0 : ContextIndex).val := by decide

/-- For EndContextForcesAnEnd: both forms out of range; a free context, a damaged one, a guard that fails and one that
holds. -/
theorem witness_endContext :
    96 ≤ (96#8).toNat ∧ 8 ≤ (8#8).toNat ∧ watching.context 95 = none ∧
      95#8 = BitVec.ofNat 8 (95 : ContextIndex).val ∧ watching.context 0 = some context ∧
      some (Location.context 1) ≠ some (.context 0) ∧
      ((0 : SlotIndex), 1#8, 20#8, 10#8) ≠ (context.slot, context.generation, context.initiator, context.responder) ∧
      ((0 : SlotIndex), 1#8, 10#8, 20#8) =
        (context.slot, context.generation, context.initiator, context.responder) := by decide

/-- For CountersAreReadAndCleared: the selectors at the ends of their ranges. -/
theorem witness_counters :
    1 < (2#8).toNat ∧ 8 ≤ (8#8).toNat ∧ 16#8 = BitVec.ofNat 8 (16 + (0 : SlotIndex).val) ∧
      23#8 = BitVec.ofNat 8 (16 + (7 : SlotIndex).val) ∧
      (∀ b ∈ [2#8, 15#8], 1 < b.toNat ∧ b.toNat < 16) ∧ ∀ b ∈ [24#8, 254#8], 23 < b.toNat ∧ b.toNat < 255 := by decide

/-- For EventsAndAlarmsAreRead: with and without a collector. -/
theorem witness_poll :
    base.collector.target = none ∧ mayAsk .pollEvents (call []) (reporting .idle base) ∧
      (reporting .idle base).collector.target ≠ none := by decide

/-- For SetCollectorRestartsTheUnit: parameters that are not taken; with and without a current report. -/
theorem witness_setCollector :
    let x := call [0#8, 5#8, 0#8, 0#8, 0#8, 100#8, 2#8, 0#8, 20#8]
    mayCommand .setCollector x held ∧ x.params.length = 9 ∧ (parseCollector x.params).isSome = true ∧
      parseCollector (List.replicate 9 0#8) = none ∧ mayCommand .setCollector x (reporting .queued held) ∧
      (reporting .queued held).report.phase = .queued ∧ held.report.phase = .off := by decide

/-- For ReportAckIsJudgedByTheUnit: foreign, delivering, stale by its serial and by the state. -/
theorem witness_reportAck :
    let x := { call [0#8, 18#8] with source := 5#8 }
    let s := reporting .awaitAck base
    (arrives x s ∧ fresh .reportAck x s) ∧ s.collector.target.map Prod.fst ≠ some (call []).source ∧
      (s.collector.target.map Prod.fst = some x.source ∧ s.report.phase = .awaitAck ∧
        x.params = bytes16 s.report.serial) ∧ [0#8, 17#8] ≠ bytes16 s.report.serial ∧
      (reporting .gap base).report.phase ≠ .awaitAck := by decide

/-- For EveryStepKeepsThePortsSound. -/
theorem witness_portsSound : portsSound base ∧ portsSound { base with responses := [waiting] } := by decide

/-- For EveryStepKeepsTheClassifierSound. -/
theorem witness_classifierSound : modeSound held ∧ modeSound watching ∧ entriesSound watching := by decide

/-- `watching` uses the context at index 0 alone. -/
theorem context_of_ne_zero : ∀ i : ContextIndex, i ≠ 0 → watching.context i = none := by decide

/-- For EveryStepKeepsTheDialoguesSound: a live context. -/
theorem witness_dialoguesSound : dialoguesSound watching := by
  refine ⟨⟨by decide, fun i j c hi d hj _ => ?_, by decide⟩, fun k => ?_⟩
  · by_cases h : i = 0 <;> by_cases h' : j = 0
    · rw [h, h']
    · rw [context_of_ne_zero j h'] at hj
      cases hj
    · rw [context_of_ne_zero i h] at hi
      cases hi
    · rw [context_of_ne_zero i h] at hi
      cases hi
  · have hv : validate image = none := by decide
    fin_cases k <;> first | exact hv | exact True.intro

/-- For EveryStepKeepsTheDialoguesSound: a drain. -/
theorem witness_drainSound : ∀ k : SlotIndex, slotSound k draining := by
  have hv : validate image = none := by decide
  have he : ∀ k : SlotIndex, k ≠ 0 → (draining.slot k).status = .empty := by decide
  intro k
  by_cases h : k = 0
  · rw [h]
    exact ⟨hv, hv, rfl, Nat.one_pos⟩
  · simp only [slotSound, he k h]
    exact Ne.symm h

/-- For EveryStepKeepsTheDeliverySound: a report under way. -/
theorem witness_deliverySound : deliverySound (reporting .queued base) := by decide

/-- For EveryStepKeepsTheAuthoritySound: a held lock with an OPEN image. -/
theorem witness_authoritySound : authoritySound { held with staging := .opened image } := by decide

end Sys2Proof.Tests
end

section
/-! SUPPORT. The check code in the shapes of R2 and R21 (section 1.9), and the ingress checks of R5 (section 1.2), said
once for each outcome; with the statements on both. -/

namespace Sys2Proof.Machine

open Sys2Proof.Safety

/-! ### The check code (R2) -/

/-- R2: the bit that a step shifts out is bit 15. -/
theorem crcStep_eq_ite (r : Word16) :
    crcStep r = if r.getLsbD 15 then (r <<< 1) ^^^ 0x1021#16 else r <<< 1 := by
  rw [crcStep, BitVec.msb_eq_getLsbD_last]

/-- R2: a byte in the upper eight bits of the register. -/
theorem setWidth_shiftLeft_eq_append (b : Byte) : b.setWidth 16 <<< 8 = b ++ 0#8 := by
  ext i hi
  simp only [BitVec.getElem_shiftLeft, BitVec.getElem_setWidth]
  grind

/-- R2: a run of bytes is taken byte by byte. -/
theorem crc_concat (bs : List Byte) (b : Byte) : crc (bs ++ [b]) = crcSteps 8 (crc bs ^^^ (b ++ 0#8)) := by
  rw [← setWidth_shiftLeft_eq_append]
  exact List.foldl_concat crcByte _ b bs

/-- R2: the check value of the polynomial and the start value. -/
theorem crc_nineDigits :
    crc [0x31#8, 0x32#8, 0x33#8, 0x34#8, 0x35#8, 0x36#8, 0x37#8, 0x38#8, 0x39#8] = 0x29B1#16 := by
  simp [crc, crcByte, crcSteps, crcStep_eq_ite]

/-- R21: the bytes of a field are these two exactly when the field is their concatenation. -/
theorem bytes16_eq_pair {x : Word16} {hi lo : Byte} : bytes16 x = [hi, lo] ↔ x = hi ++ lo := by
  have parts : x.extractLsb' 8 8 = hi ∧ x.extractLsb' 0 8 = lo ↔ x = hi ++ lo := by
    constructor
    · rintro ⟨rfl, rfl⟩
      rw [BitVec.extractLsb'_append_extractLsb'_eq_extractLsb' (Nat.zero_add 8).symm]
      exact BitVec.extractLsb'_eq_self.symm
    · rintro rfl
      exact ⟨BitVec.extractLsb'_append_eq_left, BitVec.extractLsb'_append_eq_right⟩
  simpa [bytes16] using parts

/-! ### The ingress checks (R5) -/

/-- R5 check 1: a length below or above the admitted ones. -/
theorem ingress_of_length {bytes : List Byte} (h : bytes.length < 7 ∨ 55 < bytes.length) :
    ingress bytes = .malformed := if_pos h

/-- R5 check 2: an admitted length and another check code. -/
theorem ingress_of_code {bytes : List Byte} (low : 7 ≤ bytes.length) (high : bytes.length ≤ 55)
    (h : bytes16 (crc (bytes.take (bytes.length - 2))) ≠ bytes.drop (bytes.length - 2)) :
    ingress bytes = .checkError := by
  unfold ingress
  rw [if_neg (by omega), if_pos h]

/-- R5 checks 3 to 7: once the length and the check code are in order, the header alone decides. -/
theorem ingress_header {bytes rest : List Byte} {dest source kind sequence len : Byte} (low : 7 ≤ bytes.length)
    (high : bytes.length ≤ 55) (hb : bytes = dest :: source :: kind :: sequence :: len :: rest)
    (code : bytes16 (crc (bytes.take (bytes.length - 2))) = bytes.drop (bytes.length - 2)) :
    ingress bytes =
      if 63 < kind.toNat ∨ 15 < sequence.toNat ∨ 48 < len.toNat ∨ bytes.length - 7 ≠ len.toNat ∨
          source = 255#8 ∨ source = dest then .malformed
      else .good ⟨dest, source, kind.setWidth 6, sequence.setWidth 4, rest.take len.toNat, bytes⟩ := by
  subst hb
  unfold ingress
  rw [if_neg (by omega), if_neg (not_not.2 code)]
  simp only [Config.broadcast, ite_or]
  rfl

/-! ### END_OF_RECEPTION (R4 to R7) -/

section Reception

variable {p : Port} {s : State} (hu : (s.port p).up = true) (hr : (s.port p).receiving = true)

include hu hr

/-- R4: at a port that is UP with a frame in reception, the frame is taken and the reception is over. -/
theorem exec_endOfReception (bytes : List Byte) (d : Damage) :
    exec (.endOfReception p bytes d) s = .next (takeReceived p bytes d (received p s)) := by
  change execEndOfReception p bytes d s = _
  rw [execEndOfReception, hu, hr]
  rfl

/-- R5: a malformed frame is counted, and nothing else. -/
theorem exec_endOfReception_malformed {bytes : List Byte} (d : Damage) (h : ingress bytes = .malformed) :
    exec (.endOfReception p bytes d) s = .next ((received p s).count p .malformed 1) := by
  rw [exec_endOfReception hu hr, takeReceived, h]

/-- R5: a check error is counted, and nothing else. -/
theorem exec_endOfReception_checkError {bytes : List Byte} (d : Damage) (h : ingress bytes = .checkError) :
    exec (.endOfReception p bytes d) s = .next ((received p s).count p .checkErrors 1) := by
  rw [exec_endOfReception hu hr, takeReceived, h]

/-- R5 to R7: a good frame is counted and goes on as local or in transit. -/
theorem exec_endOfReception_good {bytes : List Byte} {f : Frame} (d : Damage) (h : ingress bytes = .good f) :
    exec (.endOfReception p bytes d) s =
      .next
        (if f.dest = s.ownAddress then takeLocally p f d ((received p s).count p .goodFrames 1)
        else handleTransit p f d ((received p s).count p .goodFrames 1)) := by
  rw [exec_endOfReception hu hr, takeReceived, h]
  simp [takeGood, received]

end Reception

/-! ### The statements -/

/-- Settles O8: the outcome of the ingress checks, clause by clause, is what END_OF_RECEPTION counts. -/
theorem ingressChecksCountAFrameOnce : Obligations.IngressChecksCountAFrameOnce := by
  intro p s bytes d hu hr
  refine ⟨fun h => exec_endOfReception_malformed hu hr d (ingress_of_length h), fun low high =>
    ⟨fun h => exec_endOfReception_checkError hu hr d (ingress_of_code low high h), ?_⟩⟩
  intro dest source kind sequence len rest hb code
  have header := ingress_header low high hb code
  constructor
  · intro h
    exact exec_endOfReception_malformed hu hr d (header.trans (if_pos h))
  · intro hk hq hl hn hs hd
    exact exec_endOfReception_good hu hr d (header.trans (if_neg (by simp [hs, hd, hn]; omega)))

/-- Settles O4: the recursion of the check code at the run's last byte, and check 2 of the ingress checks at a frame
split into its body and its last two bytes. -/
theorem checkCodeIsTheCrc : Obligations.CheckCodeIsTheCrc := by
  refine ⟨rfl, crc_concat, fun n r => ⟨rfl, ?_⟩, crc_nineDigits, fun _ _ _ _ _ => rfl, ?_⟩
  · rw [← crcStep_eq_ite]
    rfl
  · intro body hi lo low high hne
    have hlen : (body ++ [hi, lo]).length = body.length + 2 := by simp
    refine ingress_of_code (by omega) (by omega) ?_
    rw [hlen, Nat.add_sub_cancel, List.take_left, List.drop_left]
    exact fun h => hne (bytes16_eq_pair.1 h)

end Sys2Proof.Machine
end

section
/-! SUPPORT. Requests as commands, from `exec` to the answer (R153), and the three counter requests (R19, R20, R65), said
once by what their parameter byte is; with the statement on them. -/

namespace Sys2Proof.Machine

open Sys2Proof.Safety

/-! ### From the command to the answer (R153) -/

/-- R153: every request row is the request happening under the row's own code. -/
theorem exec_requestInstr (c : RequestCode) (x : Call) (s : State) :
    exec (requestInstr c x none) s = .next (requestCommand c x none s) := by cases c <;> rfl

/-- R153: the state in which a request is answered with what its own rule leaves. -/
def answersWith (c : RequestCode) (x : Call) (s : State) (reply : Reply) : State :=
  answered c x s reply.state reply.status reply.data

@[simp] theorem answersWith_mk (c : RequestCode) (x : Call) (s u : State) (st : Status) (data : List Byte) :
    answersWith c x s ⟨u, st, data⟩ = answered c x s u st data := rfl

@[simp] theorem answersWith_refuse (c : RequestCode) (x : Call) (s u : State) (st : Status) :
    answersWith c x s (refuse st u) = answered c x s u st [] := rfl

/-- R153, R158: an admitted request, with its authority and a parameter length that it accepts, is answered
with what its own rule leaves after the renewal of the lease. -/
theorem exec_requestInstr_performs {c : RequestCode} {x : Call} {s : State} (may : mayAsk c x s)
    (carried : c ≠ .identify ∧ c ≠ .reportAck ∧ c ≠ .restart) (lock : authority c = .lock → holds x s)
    (len : acceptsLength c x.params.length = true) :
    exec (requestInstr c x none) s = .next (answersWith c x s (perform c x.source x.params none (renewed x s))) := by
  obtain ⟨notIdentify, notAck, notRestart⟩ := carried
  rw [exec_requestInstr, requestCommand_performs may notIdentify notAck notRestart lock len, answersWith]

/-! ### READ_PORT_COUNTERS (R19) -/

theorem performReadPortCounters_outOfRange {b : Byte} (h : 1 < b.toNat) (s : State) :
    performReadPortCounters [b] s = refuse .outOfRange s := by
  simp only [performReadPortCounters, parsePort_eq_none.2 h]

theorem performReadPortCounters_port (p : Port) (s : State) :
    performReadPortCounters [portByte p] s =
      ⟨s, .ok, flagByte (s.port p).up :: (portCounterList (s.port p).counters).flatMap bytes32⟩ := by
  simp only [performReadPortCounters, parsePort_eq_some.2 rfl]

/-- R17, R19: the eleven counters as they are sent. -/
theorem portCounterList_bytes (n : PortCounters) :
    (portCounterList n).flatMap bytes32 =
      bytes32 n.goodFrames ++ bytes32 n.checkErrors ++ bytes32 n.malformed ++ bytes32 n.takenLocally ++
        bytes32 n.verdictDrops ++ bytes32 n.wouldDrops ++ bytes32 n.congestionDiscards ++
        bytes32 n.linkDownDiscards ++ bytes32 n.transitSent ++ bytes32 n.localSent ++ bytes32 n.linkDownFlushes := by
  simp only [portCounterList, List.flatMap_cons, List.flatMap_nil, List.append_nil, List.append_assoc]

/-- R19: an admitted READ_PORT_COUNTERS. -/
theorem exec_readPortCounters {x : Call} {b : Byte} {s : State} (may : mayAsk .readPortCounters x s)
    (hp : x.params = [b]) :
    exec (.readPortCounters x) s =
      .next (answersWith .readPortCounters x s (performReadPortCounters [b] (renewed x s))) := by
  rw [← hp]
  exact exec_requestInstr_performs may (by decide) nofun (by rw [hp]; rfl)

/-! ### READ_SLOT_COUNTERS (R65) -/

theorem performReadSlotCounters_outOfRange {b : Byte} (h : 8 ≤ b.toNat) (s : State) :
    performReadSlotCounters [b] s = refuse .outOfRange s := by
  simp only [performReadSlotCounters, parseFin_eq_none.2 h]

/-- The byte of a slot's number is read back as that number. -/
theorem parseFin_slot (k : SlotIndex) : parseFin 8 (BitVec.ofNat 8 k.val) = some k :=
  parseFin_eq_some.2 (by rw [BitVec.toNat_ofNat]; omega)

theorem performReadSlotCounters_slot (k : SlotIndex) (s : State) :
    performReadSlotCounters [BitVec.ofNat 8 k.val] s =
      ⟨s, .ok, [slotStatusByte (s.slot k).status, (s.slot k).generation] ++
        (slotCounterList (s.slot k).counters).flatMap bytes32⟩ := by
  simp only [performReadSlotCounters, parseFin_slot]

/-- R60, R65: the eight counters as they are sent. -/
theorem slotCounterList_bytes (n : SlotCounters) :
    (slotCounterList n).flatMap bytes32 =
      bytes32 n.created ++ bytes32 n.endedByEnd ++ bytes32 n.endedByTimeout ++ bytes32 n.endedOtherwise ++
        bytes32 n.unanchored ++ bytes32 n.overflowRefusals ++ bytes32 n.unexpected ++
        bytes32 n.retryLimitHits := by
  simp only [slotCounterList, List.flatMap_cons, List.flatMap_nil, List.append_nil, List.append_assoc]

/-- R65: an admitted READ_SLOT_COUNTERS. -/
theorem exec_readSlotCounters {x : Call} {b : Byte} {s : State} (may : mayAsk .readSlotCounters x s)
    (hp : x.params = [b]) :
    exec (.readSlotCounters x) s =
      .next (answersWith .readSlotCounters x s (performReadSlotCounters [b] (renewed x s))) := by
  rw [← hp]
  exact exec_requestInstr_performs may (by decide) nofun (by rw [hp]; rfl)

/-! ### CLEAR_COUNTERS (R20) -/

/-- R20: a port's selector is its byte. -/
theorem parseSelector_port (p : Port) : parseSelector (portByte p) = some (.port p) := by cases p <;> rfl

/-- R20: 10h to 17h name the slots. -/
theorem parseSelector_slot (k : SlotIndex) : parseSelector (BitVec.ofNat 8 (16 + k.val)) = some (.slot k) := by
  revert k
  decide

/-- R20: the selectors that name nothing. -/
theorem parseSelector_eq_none {b : Byte} :
    parseSelector b = none ↔ (1 < b.toNat ∧ b.toNat < 16) ∨ (23 < b.toNat ∧ b.toNat < 255) := by
  revert b
  decide

theorem performClearCounters_outOfRange {b : Byte} (h : parseSelector b = none) (s : State) :
    performClearCounters [b] s = refuse .outOfRange s := by simp only [performClearCounters, h]

theorem performClearCounters_selected {b : Byte} {c : CounterSelector} (h : parseSelector b = some c) (s : State) :
    performClearCounters [b] s = ⟨clearSelected c s, .ok, []⟩ := by simp only [performClearCounters, h]

/-- R20: selector FFh clears the counters of both ports, of every slot and of every match entry. -/
theorem clearSelected_everything (s : State) :
    clearSelected .everything s =
      { s with
        portA := { s.portA with counters := .zero }, portB := { s.portB with counters := .zero }
        slots := Vector.ofFn (fun k => { s.slots[k] with counters := .zero })
        entries := Vector.ofFn (fun i => { s.entries[i] with hits := 0 }) } := rfl

/-- R20: an admitted CLEAR_COUNTERS. -/
theorem exec_clearCounters {x : Call} {b : Byte} {s : State} (may : mayCommand .clearCounters x s)
    (hp : x.params = [b]) :
    exec (.clearCounters x) s =
      .next (answersWith .clearCounters x s (performClearCounters [b] (renewed x s))) := by
  rw [← hp]
  exact exec_requestInstr_performs may.1 (by decide) (fun _ => may.2) (by rw [hp]; rfl)

/-- R20: a selector that names counters has them cleared. -/
theorem exec_clearCounters_selected {x : Call} {b : Byte} {s : State} {c : CounterSelector}
    (may : mayCommand .clearCounters x s) (hp : x.params = [b]) (h : parseSelector b = some c) :
    exec (.clearCounters x) s = .next (answered .clearCounters x s (clearSelected c (renewed x s)) .ok []) := by
  rw [exec_clearCounters may hp, performClearCounters_selected h, answersWith_mk]

/-! ### The statement -/

/-- R19: both clauses of READ_PORT_COUNTERS. -/
theorem readPortCounters_answers {x : Call} {b : Byte} {s : State} (may : mayAsk .readPortCounters x s)
    (hp : x.params = [b]) :
    (1 < b.toNat → exec (.readPortCounters x) s =
      .next (answered .readPortCounters x s (renewed x s) .outOfRange [])) ∧
    ∀ p : Port, b = portByte p →
      exec (.readPortCounters x) s = .next (answered .readPortCounters x s (renewed x s) .ok
        (flagByte (s.port p).up :: (portCounterList (s.port p).counters).flatMap bytes32)) := by
  constructor
  · intro h
    rw [exec_readPortCounters may hp, performReadPortCounters_outOfRange h, answersWith_refuse]
  · rintro p rfl
    rw [exec_readPortCounters may hp, performReadPortCounters_port, answersWith_mk, renewed_port]

/-- R65: both clauses of READ_SLOT_COUNTERS. -/
theorem readSlotCounters_answers {x : Call} {b : Byte} {s : State} (may : mayAsk .readSlotCounters x s)
    (hp : x.params = [b]) :
    (8 ≤ b.toNat → exec (.readSlotCounters x) s =
      .next (answered .readSlotCounters x s (renewed x s) .outOfRange [])) ∧
    ∀ k : SlotIndex, b = BitVec.ofNat 8 k.val →
      exec (.readSlotCounters x) s = .next (answered .readSlotCounters x s (renewed x s) .ok
        ([slotStatusByte (s.slot k).status, (s.slot k).generation] ++
          (slotCounterList (s.slot k).counters).flatMap bytes32)) := by
  constructor
  · intro h
    rw [exec_readSlotCounters may hp, performReadSlotCounters_outOfRange h, answersWith_refuse]
  · rintro k rfl
    rw [exec_readSlotCounters may hp, performReadSlotCounters_slot, answersWith_mk, renewed_slot]

/-- Settles O49: each clause is the request's own rule at the parameter byte that it names. -/
theorem countersAreReadAndCleared : Obligations.CountersAreReadAndCleared := by
  refine ⟨fun x b s hp => ⟨fun may => ?_, fun may => ?_⟩, fun x b s may hp => ?_⟩
  · obtain ⟨refused, read⟩ := readPortCounters_answers may hp
    refine ⟨refused, fun p hb => ?_⟩
    rw [read p (by cases p <;> exact hb), portCounterList_bytes]
    rfl
  · obtain ⟨refused, read⟩ := readSlotCounters_answers may hp
    refine ⟨refused, fun k hb => ?_⟩
    rw [read k hb, slotCounterList_bytes]
    rfl
  · have selected {c : CounterSelector} (h : parseSelector b = some c) := exec_clearCounters_selected may hp h
    refine ⟨?portA, ?portB, ?slot, ?everything, ?other⟩
    case portA =>
      rintro rfl
      rw [selected (parseSelector_port .a), ← renewed_portA x s]
      rfl
    case portB =>
      rintro rfl
      rw [selected (parseSelector_port .b), ← renewed_portB x s]
      rfl
    case slot =>
      rintro k rfl
      rw [selected (parseSelector_slot k)]
      rfl
    case everything =>
      rintro rfl
      rw [selected (c := .everything) rfl, clearSelected_everything]
      simp only [renewed_portA, renewed_portB, renewed_slots, renewed_entries]
      rfl
    case other =>
      intro h
      rw [exec_clearCounters may hp, performClearCounters_outOfRange (parseSelector_eq_none.2 h),
        answersWith_refuse]

end Sys2Proof.Machine
end

section
/-! SUPPORT. CLEAR_FAULT (R40), with the statement on it. -/

namespace Sys2Proof.Machine

open Sys2Proof.Safety

/-- R40: the data byte says whether the latch was set. -/
theorem flagByte_isSome {α : Type} (o : Option α) :
    flagByte o.isSome = if o = none then 0#8 else 1#8 := by
  cases o with
  | none => rfl
  | some _ => rfl

/-- R40: an admitted CLEAR_FAULT. -/
theorem exec_clearFault {x : Call} {s : State} (may : mayCommand .clearFault x s) (hp : x.params = []) :
    exec (.clearFault x) s = .next (answersWith .clearFault x s (performClearFault (renewed x s))) :=
  exec_requestInstr_performs may.1 (by decide) (fun _ => may.2) (by rw [hp]; rfl)

/-- Settles O39: the request's own rule leaves the latch clear, and the renewal before it leaves the latch as it was. -/
theorem clearFaultClearsTheLatch : Obligations.ClearFaultClearsTheLatch := by
  intro x s may hp
  rw [exec_clearFault may hp, performClearFault, answersWith_mk, flagByte_isSome, renewed_faultLatch]

end Sys2Proof.Machine
end

section
/-! SUPPORT. A REPORT_ACK (R148): the check for occupied response slots in front of every request (R158 check 1), and the
report unit's judgement said once for each outcome; with the statement on it. -/

namespace Sys2Proof.Machine

open Sys2Proof.Safety

/-! ### The way to the report unit (R158 checks 1 to 4) -/

/-- R158 check 1: with both response slots occupied a request is discarded and counted. -/
theorem takeRequest_of_full {s : State} (full : 2 ≤ s.responses.length) (r : Request) (d : Damage) :
    takeRequest r d s = { s with overruns := satAdd s.overruns 1 } := by
  rw [takeRequest, Config.responseSlots, if_pos full, satInc_eq_satAdd]

/-- R158 check 1, for a request command of any row. -/
theorem exec_requestInstr_full {c : RequestCode} {x : Call} {s : State} (arrived : arrives x s)
    (full : 2 ≤ s.responses.length) :
    exec (requestInstr c x none) s = .next { s with overruns := satAdd s.overruns 1 } := by
  rw [exec_requestInstr, requestCommand_arrives arrived, takeRequest_of_full full]

/-- R158 check 4: a fresh REPORT_ACK leaves the checks for the report unit. -/
theorem exec_reportAck_fresh {x : Call} {s : State} (arrived : arrives x s) (new : fresh .reportAck x s) :
    exec (.reportAck x) s = .next (takeAck x.source x.params s) :=
  (exec_requestInstr .reportAck x s).trans (congrArg _ (requestCommand_fresh arrived new))

/-! ### The judgement (R148) -/

/-- R144, R147, R148: the phase and the gap timer after a report, by the pacing gap. -/
theorem endReport_eq_closeReport (s : State) :
    endReport s = closeReport (if s.collector.pacingGap = 0 then .idle else .gap) s.collector.pacingGap s := by
  unfold endReport
  split
  · next gapless => rw [gapless]
  · rfl

section Judgement

variable {source : Byte} {params : List Byte} {s : State}

/-- R148: an acknowledgement from another node than the collector is counted as foreign. -/
theorem takeAck_foreign (other : s.collector.target.map Prod.fst ≠ some source) :
    takeAck source params s =
      { s with report := { s.report with foreignAcks := satAdd s.report.foreignAcks 1 } } := by
  rw [takeAck, if_pos other, satInc_eq_satAdd]

/-- R133, R148: the collector's acknowledgement of the serial awaited delivers the report. -/
theorem takeAck_delivers (sender : s.collector.target.map Prod.fst = some source) (waits : s.report.phase = .awaitAck)
    (serial : params = bytes16 s.report.serial) : takeAck source params s = endReport (deliverPinned s) := by
  rw [takeAck, if_neg (not_not.2 sender), if_pos ⟨waits, serial⟩]

/-- R148: any other acknowledgement of the collector is counted as stale. -/
theorem takeAck_stale (sender : s.collector.target.map Prod.fst = some source)
    (other : s.report.phase ≠ .awaitAck ∨ params ≠ bytes16 s.report.serial) :
    takeAck source params s = { s with report := { s.report with staleAcks := satAdd s.report.staleAcks 1 } } := by
  rw [takeAck, if_neg (not_not.2 sender), if_neg (not_and_or.2 other), satInc_eq_satAdd]

end Judgement

/-- Settles O52: occupied response slots stop the request at check 1; each other clause is the report unit's judgement
of the sender, then of the unit's phase and the serial. -/
theorem reportAckIsJudgedByTheUnit : Obligations.ReportAckIsJudgedByTheUnit := by
  intro x s arrived
  refine ⟨exec_requestInstr_full (c := .reportAck) arrived, fun new other => ?foreign, fun new sender =>
    ⟨fun waits serial => ?delivers, fun other => ?stale⟩⟩
  case foreign => rw [exec_reportAck_fresh arrived new, takeAck_foreign other]
  case delivers =>
    rw [exec_reportAck_fresh arrived new, takeAck_delivers sender waits serial, endReport_eq_closeReport]
    rfl
  case stale => rw [exec_reportAck_fresh arrived new, takeAck_stale sender other]

end Sys2Proof.Machine
end

section
/-! SUPPORT. CLAIM (R165): the reading of the lease length and the judgement of the lock, said once for each outcome;
with the statement on it. -/

namespace Sys2Proof.Machine

open Sys2Proof.Safety

/-! ### The lease length -/

/-- R165: a length of 0 asks for the default lease. -/
theorem parseLease_zero {hi lo : Byte} (zero : word16 hi lo = 0) : parseLease hi lo = some Config.defaultLease := by
  rw [parseLease, if_pos zero]

/-- R165: a length in range is taken as given. -/
theorem parseLease_inRange {hi lo : Byte} (least : 10 ≤ (word16 hi lo).toNat) (most : (word16 hi lo).toNat ≤ 60000) :
    parseLease hi lo = some (word16 hi lo) := by
  have nonzero : word16 hi lo ≠ 0 := by intro zero; simp [zero] at least
  rw [parseLease, if_neg nonzero, if_pos ⟨least, most⟩]

/-- R165: the lengths that are read are 0 and those in range. -/
theorem parseLease_isSome {hi lo : Byte}
    (legal : word16 hi lo = 0 ∨ (10 ≤ (word16 hi lo).toNat ∧ (word16 hi lo).toNat ≤ 60000)) :
    ∃ n, parseLease hi lo = some n := by
  obtain zero | ⟨least, most⟩ := legal
  · exact ⟨_, parseLease_zero zero⟩
  · exact ⟨_, parseLease_inRange least most⟩

/-- R165: the other lengths are refused. -/
theorem parseLease_outOfRange {hi lo : Byte} (positive : 0 < (word16 hi lo).toNat)
    (out : (word16 hi lo).toNat < 10 ∨ 60000 < (word16 hi lo).toNat) : parseLease hi lo = none := by
  have nonzero : word16 hi lo ≠ 0 := by intro zero; simp [zero] at positive
  rw [parseLease, if_neg nonzero, if_neg (by omega)]

/-! ### The lock -/

/-- R158 check 9: the renewal leaves the holder as it was. -/
theorem renewed_lock_map_holder (x : Call) (s : State) :
    (renewed x s).lock.map Lease.holder = s.lock.map Lease.holder := by
  unfold renewed
  split
  · exact Option.map_map ..
  · rfl

section Lock

variable {source : Byte} {s : State}

/-- R165: a FREE lock becomes HELD, with the default lease where no length is given. -/
theorem claimLock_free (free : s.lock = none) (length : Option Word16) :
    claimLock source length s = grant source (length.getD Config.defaultLease) s := by
  simp only [claimLock, free]

/-- R165: the holder's CLAIM with a length takes that length. -/
theorem claimLock_holder_some {l : Lease} (held : s.lock = some l) (own : l.holder = source) (n : Word16) :
    claimLock source (some n) s = grant source n s := by
  simp only [claimLock, held, if_pos own]

/-- R158 check 9, R165: the holder's CLAIM without a length, whose lease has been renewed, keeps the length it has. -/
theorem claimLock_holder_none {n : Word16} (held : s.lock = some ⟨source, n, n⟩) :
    claimLock source none s = grant source n s := by
  have unchanged : { s with lock := some ⟨source, n, n⟩ } = s := by rw [← held]
  simp only [claimLock, held, if_true, grant, unchanged]

/-- R165: with another node as holder nothing changes, whatever length is asked for. -/
theorem claimLock_busy {l : Lease} (held : s.lock = some l) (other : l.holder ≠ source) (length : Option Word16) :
    claimLock source length s = ⟨s, .busy, [l.holder]⟩ := by
  simp only [claimLock, held, if_neg other]

/-- R158 check 9, R165: another node's CLAIM finds the state as it was, for its lease is not renewed. -/
theorem claimLock_renewed_busy {x : Call} {l : Lease} (held : s.lock = some l) (other : l.holder ≠ x.source)
    (length : Option Word16) : claimLock x.source length (renewed x s) = ⟨s, .busy, [l.holder]⟩ := by
  have notHolder : ¬holds x s := by simpa [held] using other
  rw [renewed_of_not_holds notHolder, claimLock_busy held other]

/-- R165: a CLAIM with a length takes a lock that is FREE or the requester's own. -/
theorem claimLock_takes (may : s.lock = none ∨ s.lock.map Lease.holder = some source) (n : Word16) :
    claimLock source (some n) s = grant source n s := by
  obtain free | own := may
  · exact claimLock_free free (some n)
  · obtain ⟨l, held, own⟩ := Option.map_eq_some_iff.1 own
    exact claimLock_holder_some held own n

end Lock

/-! ### The request -/

theorem performClaim_length {hi lo : Byte} {n : Word16} (read : parseLease hi lo = some n) (source : Byte) (s : State) :
    performClaim source [hi, lo] s = claimLock source (some n) s := by simp only [performClaim, read]

theorem performClaim_outOfRange {hi lo : Byte} (unread : parseLease hi lo = none) (source : Byte) (s : State) :
    performClaim source [hi, lo] s = refuse .outOfRange s := by simp only [performClaim, unread]

/-- R165: an admitted CLAIM. -/
theorem exec_claim {x : Call} {s : State} (may : mayAsk .claim x s)
    (len : acceptsLength .claim x.params.length = true) :
    exec (.claim x) s = .next (answersWith .claim x s (performClaim x.source x.params (renewed x s))) :=
  exec_requestInstr_performs may (by decide) nofun len

section Claim

variable {x : Call} {s : State}

/-- R165: an admitted CLAIM whose parameters are read as a lease of `n` ticks. -/
theorem exec_claim_length {hi lo : Byte} {n : Word16} (may : mayAsk .claim x s) (hp : x.params = [hi, lo])
    (read : parseLease hi lo = some n) :
    exec (.claim x) s = .next (answersWith .claim x s (claimLock x.source (some n) (renewed x s))) := by
  rw [exec_claim may (by rw [hp]; rfl), hp, performClaim_length read]

/-- R165: an admitted CLAIM without a length. -/
theorem exec_claim_bare (may : mayAsk .claim x s) (hp : x.params = []) :
    exec (.claim x) s = .next (answersWith .claim x s (claimLock x.source none (renewed x s))) := by
  rw [exec_claim may (by rw [hp]; rfl), hp, performClaim]

/-- R165: a CLAIM with a length from a node that finds the lock FREE or holds it. -/
theorem exec_claim_takes {hi lo : Byte} {n : Word16} (may : mayAsk .claim x s) (hp : x.params = [hi, lo])
    (available : s.lock = none ∨ holds x s) (read : parseLease hi lo = some n) :
    exec (.claim x) s = .next (answersWith .claim x s (grant x.source n (renewed x s))) := by
  have stillAvailable : (renewed x s).lock = none ∨ (renewed x s).lock.map Lease.holder = some x.source :=
    available.imp renewed_lock_free (renewed_lock_map_holder x s).trans
  rw [exec_claim_length may hp read, claimLock_takes stillAvailable]

end Claim

/-- Settles O35: the length is read first, then the lock as the renewal leaves it: FREE, the requester's own, or
another node's. -/
theorem claimTakesAFreeLock : Obligations.ClaimTakesAFreeLock := by
  intro x s may
  refine ⟨fun hi lo hp => ⟨?outOfRange, ?takes, ?busy⟩, fun hp => ⟨?bareFree, fun l held => ⟨?bareHolder, ?bareBusy⟩⟩⟩
  case outOfRange =>
    intro positive out
    rw [exec_claim may (by rw [hp]; rfl), hp, performClaim_outOfRange (parseLease_outOfRange positive out),
      answersWith_refuse]
  case takes =>
    intro lock
    exact ⟨fun zero => exec_claim_takes may hp lock (parseLease_zero zero),
      fun least most => exec_claim_takes may hp lock (parseLease_inRange least most)⟩
  case busy =>
    intro l held other legal
    obtain ⟨n, read⟩ := parseLease_isSome legal
    rw [exec_claim_length may hp read, claimLock_renewed_busy held other, answersWith_mk]
  case bareFree =>
    intro free
    rw [exec_claim_bare may hp, claimLock_free (renewed_lock_free free)]
    rfl
  case bareHolder =>
    intro own
    have renewal : (renewed x s).lock = some ⟨x.source, l.length, l.length⟩ := by
      rw [renewed_lock_holder held own, own]
    rw [exec_claim_bare may hp, claimLock_holder_none renewal]
    rfl
  case bareBusy =>
    intro other
    rw [exec_claim_bare may hp, claimLock_renewed_busy held other, answersWith_mk]

end Sys2Proof.Machine
end

section
/-! SUPPORT. STAGE_BEGIN and STAGE_ABORT (R174, R179), said once for each state of the staging buffer; with the
statement on them. -/

namespace Sys2Proof.Machine

open Sys2Proof.Safety

section Buffer

variable {s : State}

/-! ### Opening (R174) -/

/-- R174: an EMPTY buffer is opened. -/
theorem performStageBegin_empty (empty : s.staging = .empty) :
    performStageBegin s = ⟨{ s with staging := .opened clearedImage }, .ok, [0#8]⟩ := by
  simp only [performStageBegin, empty]

/-- R174: the image of an OPEN buffer is cleared. -/
theorem performStageBegin_opened {image : Image} (opened : s.staging = .opened image) :
    performStageBegin s = ⟨{ s with staging := .opened clearedImage }, .ok, [1#8]⟩ := by
  simp only [performStageBegin, opened]

/-- R174: a PENDING buffer is not reopened. -/
theorem performStageBegin_pending {image : Image} {k : SlotIndex} (pending : s.staging = .pending image k) :
    performStageBegin s = refuse .busy s := by
  simp only [performStageBegin, pending]

/-! ### Discarding (R44, R179) -/

/-- R44: a DRAINING slot becomes ACTIVE with the image that it has. -/
theorem resumeSlot_draining {x : Slot} {old : Image} (draining : x.status = .draining old) :
    resumeSlot x = { x with status := .active old } := by
  simp only [resumeSlot, draining]

/-- R179: the image of an OPEN buffer is discarded, and nothing else. -/
theorem discardStaging_opened {image : Image} (opened : s.staging = .opened image) :
    discardStaging s = { s with staging := .empty } := by
  simp only [discardStaging, opened]

/-- R44, R179: the end of the drain of a PENDING buffer: its target keeps its old image and is ACTIVE again. -/
theorem discardStaging_pending {image old : Image} {k : SlotIndex} (pending : s.staging = .pending image k)
    (draining : (s.slot k).status = .draining old) :
    discardStaging s =
      ({ s with staging := .empty }).modifySlot k (fun y => { y with status := .active old }) := by
  simp only [discardStaging, pending]
  exact State.modifySlot_congr (resumeSlot_draining draining)

/-- R179: an EMPTY buffer has nothing to abort. -/
theorem performStageAbort_empty (empty : s.staging = .empty) : performStageAbort s = refuse .wrongState s := by
  simp only [performStageAbort, empty]

/-- R179: the abort of an OPEN buffer. -/
theorem performStageAbort_opened {image : Image} (opened : s.staging = .opened image) :
    performStageAbort s = ⟨{ s with staging := .empty }, .ok, [1#8]⟩ := by
  simp only [performStageAbort, opened, discardStaging_opened opened]

/-- R44, R179: the abort of a PENDING buffer. -/
theorem performStageAbort_pending {image old : Image} {k : SlotIndex} (pending : s.staging = .pending image k)
    (draining : (s.slot k).status = .draining old) :
    performStageAbort s =
      ⟨({ s with staging := .empty }).modifySlot k (fun y => { y with status := .active old }), .ok, [2#8]⟩ := by
  simp only [performStageAbort, pending, discardStaging_pending pending draining]

end Buffer

/-! ### The requests -/

section Requests

variable {x : Call} {s : State}

/-- R174: an admitted STAGE_BEGIN. -/
theorem exec_stageBegin (may : mayCommand .stageBegin x s) (hp : x.params = []) :
    exec (.stageBegin x) s = .next (answersWith .stageBegin x s (performStageBegin (renewed x s))) :=
  exec_requestInstr_performs may.1 (by decide) (fun _ => may.2) (by rw [hp]; rfl)

/-- R179: an admitted STAGE_ABORT. -/
theorem exec_stageAbort (may : mayCommand .stageAbort x s) (hp : x.params = []) :
    exec (.stageAbort x) s = .next (answersWith .stageAbort x s (performStageAbort (renewed x s))) :=
  exec_requestInstr_performs may.1 (by decide) (fun _ => may.2) (by rw [hp]; rfl)

end Requests

/-- Settles O42: each request's own rule by the state of the buffer, which the renewal of the lease leaves as it was, as
it does the slot that drains. -/
theorem stagingOpensAndAborts : Obligations.StagingOpensAndAborts := by
  refine ⟨fun x s may hp => ?begins, fun x s may hp =>
    ⟨fun empty => ?abortsEmpty, fun image opened => ?abortsOpened, fun image old k pending draining => ?abortsDrain⟩⟩
  case begins =>
    rw [exec_stageBegin may hp]
    cases buffer : s.staging with
    | empty =>
      rw [performStageBegin_empty ((renewed_staging x s).trans buffer), answersWith_mk]
      rfl
    | opened image =>
      rw [performStageBegin_opened ((renewed_staging x s).trans buffer), answersWith_mk]
      rfl
    | pending image k =>
      rw [performStageBegin_pending ((renewed_staging x s).trans buffer), answersWith_refuse]
  case abortsEmpty =>
    rw [exec_stageAbort may hp, performStageAbort_empty ((renewed_staging x s).trans empty), answersWith_refuse]
  case abortsOpened =>
    rw [exec_stageAbort may hp, performStageAbort_opened ((renewed_staging x s).trans opened), answersWith_mk]
  case abortsDrain =>
    have stillDraining : ((renewed x s).slot k).status = .draining old := by rw [renewed_slot, draining]
    rw [exec_stageAbort may hp, performStageAbort_pending ((renewed_staging x s).trans pending) stillDraining,
      answersWith_mk]

end Sys2Proof.Machine
end

section
/-! SUPPORT. What a step can do, said once (00_scope.md, "Happenings"): a law that every happening keeps is kept by every
step. The laws of Safety.lean are proved as instances. -/

namespace Sys2Proof.Machine

open Sys2Proof.Safety

/-! ### The happenings that a law has to survive -/

/-- R5 checks 6 and 7: what the ingress checks have made sure of in a good frame's nodes. -/
def Frame.admitted (f : Frame) : Prop := f.source ≠ 255#8 ∧ f.source ≠ f.dest

/-- R5, R6: the nodes of a request that can reach the management unit. -/
def Request.admitted (r : Request) (s : State) : Prop :=
  r.source ≠ 255#8 ∧ r.source ≠ s.ownAddress ∧ (s.port r.port).up = true

/-- A law that every happening keeps, one field for each kind of happening. -/
structure Kept (P : State → Prop) : Prop where
  pending : ∀ (l : List Instr) (s : State), P s → P { s with pending := l }
  reset : ∀ (held : Bool) (cause : ResetCause) (s : State), P s → P (resetState held cause s)
  rise : ∀ (p : Port) (s : State), P s → s.resetHeld = false → (s.port p).up = false → P (s.modifyPort p raiseLink)
  fall : ∀ (p : Port) (s : State), P s → (s.port p).up = true → P (takeLinkDown p s)
  reception : ∀ (p : Port) (b : Bool) (s : State), P s → (s.port p).up = true →
    P (s.modifyPort p (fun q => { q with receiving := b }))
  count : ∀ (p : Port) (k : PortCounter) (n : Nat) (s : State), P s → P (s.count p k n)
  transit : ∀ (p : Port) (f : Frame) (d : Damage) (s : State), P s → f.admitted → P (handleTransit p f d s)
  request : ∀ (r : Request) (d : Damage) (s : State), P s → r.admitted s → P (takeRequest r d s)
  transmission : ∀ (p : Port) (s : State), P s → (s.port p).sending ≠ none →
    P (select p (s.modifyPort p (fun q => { q with sending := none })))
  expiry : ∀ (i : ContextIndex) (d : Damage) (s : State), P s → P (expireIfDue i d s)
  managementTick : ∀ s : State, P s → P (managementTick s)
  reportTick : ∀ s : State, P s → P (reportTick s)
  timeBase : ∀ s : State, P (settleTick s) → P s → P (countTick (settleTick s))
  assembly : ∀ s : State, P s → assemblyReady s = true → P (offerReport (buildReport s))
  drain : ∀ (k : SlotIndex) (s : State), P s → drainDone s = some k →
    P (offerAll (completeDrain k s).2 (completeDrain k s).1)

/-! ### Received frames -/

/-- R5: a good frame has passed the checks of its nodes. -/
theorem admitted_of_ingress {bytes : List Byte} {f : Frame} (h : ingress bytes = .good f) : f.admitted := by
  unfold ingress at h
  repeat' split at h
  all_goals cases h
  rename_i sourceIsNode sourceIsNotDest
  exact ⟨sourceIsNode, sourceIsNotDest⟩

namespace Kept

variable {P : State → Prop} (kept : Kept P)

include kept

/-- R6, R7: a good frame, taken locally or in transit. -/
theorem good {p : Port} {f : Frame} (d : Damage) {s : State} (h : P s) (up : (s.port p).up = true) (hf : f.admitted) :
    P (takeGood p f d s) := by
  have counted := kept.count p .goodFrames 1 s h
  simp only [takeGood]
  split
  · rename_i own
    have foreign : f.source ≠ s.ownAddress := by simpa [own] using hf.2
    have taken := kept.count p .takenLocally 1 _ counted
    simp only [takeLocally]
    split
    · exact kept.request _ d _ taken ⟨hf.1, by simpa [frameRequest] using foreign, by simpa [frameRequest] using up⟩
    · exact taken
  · exact kept.transit p f d _ counted hf

/-- R5: a received frame. -/
theorem received {p : Port} {bytes : List Byte} {d : Damage} {s : State} (h : P s) (up : (s.port p).up = true) :
    P (takeReceived p bytes d s) := by
  unfold takeReceived
  split
  · exact kept.count p .malformed 1 s h
  · exact kept.count p .checkErrors 1 s h
  · exact kept.good d h up (admitted_of_ingress ‹_›)

/-- R153: a request command. -/
theorem command (c : RequestCode) (x : Call) (d : Damage) {s : State} (h : P s) : P (requestCommand c x d s) := by
  unfold requestCommand
  split
  · rename_i arrives
    obtain ⟨⟨⟨hs, -⟩, up⟩, own⟩ : ((x.source ≠ Config.broadcast ∧ x.params.length ≤ 46) ∧ (s.port x.port).up = true) ∧
        x.source ≠ s.ownAddress := by simpa [canArrive, Call.wf] using arrives
    exact kept.request _ d s h ⟨hs, own, up⟩
  · exact h

/-- R113, R116: what is left of the present tick is settled. -/
theorem settle {s : State} (h : P s) : P (settleTick s) := by
  have fold : ∀ (l : List ContextIndex) (s : State), P s → P (l.foldl (fun s i => expireIfDue i none s) s) := by
    intro l
    induction l with
    | nil => exact fun s h => h
    | cons i l ih => exact fun s h => ih _ (kept.expiry i none s h)
  exact kept.reportTick _ (kept.managementTick _ (fold _ s h))

/-- A law that survives every happening survives every command. -/
theorem exec {c : Instr} {s t : State} (h : P s) (step : Machine.exec c s = .next t) : P t := by
  cases c
  case powerOn | resetLineAsserted => cases step; exact kept.reset _ _ s h
  case resetLineReleased =>
    cases step
    split
    · exact kept.reset _ _ s h
    · exact h
  case linkUp p =>
    cases step
    split
    · exact h
    · rename_i down
      simp only [Bool.or_eq_true, not_or, Bool.not_eq_true] at down
      exact kept.rise p s h down.1 down.2
  case linkDown p =>
    cases step
    split
    · exact kept.fall p s h ‹_›
    · exact h
  case startOfReception p =>
    cases step
    split
    · exact kept.reception p true s h ‹_›
    · exact h
  case endOfReception p bytes d =>
    cases step
    split
    · rename_i up
      rw [Bool.and_eq_true] at up
      exact kept.received (kept.reception p false s h up.1) (by simpa using up.1)
    · exact h
  case endOfTransmission p =>
    cases step
    split
    · exact kept.transmission p s h (Option.isSome_iff_ne_none.1 ‹_›)
    · exact h
  case tick taker =>
    cases step
    split
    · split
      · exact h
      · exact kept.timeBase s (kept.settle h) h
    · exact kept.managementTick s h
    · exact kept.reportTick s h
  case expiry i d => cases step; exact kept.expiry i d s h
  case leaseRunOut =>
    cases step
    split
    · exact kept.managementTick s h
    · exact h
  case retryTimerRunOut | gapTimerRunOut =>
    cases step
    split
    · exact kept.reportTick s h
    · exact h
  case assembly =>
    cases step
    split
    · exact kept.assembly s h ‹_›
    · exact h
  case drainCompletion =>
    cases step
    split
    · exact kept.drain _ s h ‹_›
    · exact h
  all_goals cases step; exact kept.command _ _ _ h

/-- A law that survives every happening survives every step. -/
theorem step {s t : State} (h : P s) (taken : Machine.step s = .next t) : P t := by
  unfold Machine.step at taken
  split at taken
  · cases taken; exact h
  · exact kept.exec (kept.pending _ s h) taken

end Kept

end Sys2Proof.Machine
end

section
/-! SUPPORT. What the classifier, the watch engine and the program store can do to the rest of the part: they change
their own tables and the staging buffer, they offer events, and they open no staging buffer. Said once as a relation
between two states, with one lemma for each operation. -/

namespace Sys2Proof.Machine

open Sys2Proof.Safety

/-- The state `s` with the tables, the mode, the latch and the staging buffer of `t`. -/
def tablesOf (t s : State) : State :=
  { s with
    entries := t.entries, mode := t.mode, defaultAction := t.defaultAction, faultLatch := t.faultLatch
    slots := t.slots, contexts := t.contexts, staging := t.staging }

/-- From `s` to `t` only the tables change, events are offered, and no staging buffer is opened. -/
def TableWork (s t : State) : Prop :=
  (∃ es, t = tablesOf t (offerAll es s)) ∧ (stagingOpen t = true → stagingOpen s = true)

/-! ### An offer, case by case (R127 to R129) -/

/-- R128: the event with the next serial is removed and counted lost. -/
theorem removeCollision_of_mem {s : State} (h : ∃ x ∈ s.events, x.serial = s.nextSerial) :
    removeCollision s =
      { s with
        events := s.events.filter (fun x => x.serial != s.nextSerial), lostCount := satAdd s.lostCount 1 } :=
  if_pos (by simpa using h)

/-- R128: with no such event nothing is removed. -/
theorem removeCollision_of_forall {s : State} (h : ∀ x ∈ s.events, x.serial ≠ s.nextSerial) : removeCollision s = s :=
  if_neg (by simpa using h)

section Decision

variable {e : EventBody} {s : State}

/-- R129 step 1: below its depth the queue admits the offer. -/
theorem decideOffer_of_room (h : s.events.length < Config.queueDepth) : decideOffer e s = admitEvent e s := if_pos h

/-- R129 step 2: at its depth an event of a lower level is displaced. -/
theorem decideOffer_displaces {m : BitVec 2} (full : ¬s.events.length < Config.queueDepth)
    (low : lowestLevel s.events = some m) (h : m < e.level) : decideOffer e s = admitEvent e (displace m s) := by
  simp only [decideOffer, if_neg full, low, if_pos h]

/-- R129 step 3: else the offer is discarded. -/
theorem decideOffer_discards (full : ¬s.events.length < Config.queueDepth)
    (low : ∀ m, lowestLevel s.events = some m → ¬m < e.level) : decideOffer e s = discardOffer s := by
  simp only [decideOffer, if_neg full]
  split
  · exact if_neg (low _ ‹_›)
  · rfl

end Decision

/-! ### Offers do not look at the tables -/

theorem removeCollision_tablesOf (t s : State) : removeCollision (tablesOf t s) = tablesOf t (removeCollision s) := by
  by_cases h : ∃ x ∈ s.events, x.serial = s.nextSerial
  · rw [removeCollision_of_mem h]
    exact removeCollision_of_mem (s := tablesOf t s) h
  · have none : ∀ x ∈ s.events, x.serial ≠ s.nextSerial := fun x hx e => h ⟨x, hx, e⟩
    rw [removeCollision_of_forall none]
    exact removeCollision_of_forall (s := tablesOf t s) none

theorem decideOffer_tablesOf (e : EventBody) (t s : State) :
    decideOffer e (tablesOf t s) = tablesOf t (decideOffer e s) := by
  by_cases room : s.events.length < Config.queueDepth
  · rw [decideOffer_of_room room]
    exact decideOffer_of_room (s := tablesOf t s) room
  · by_cases low : ∃ m, lowestLevel s.events = some m ∧ m < e.level
    · obtain ⟨m, low, h⟩ := low
      rw [decideOffer_displaces room low h]
      exact decideOffer_displaces (s := tablesOf t s) room low h
    · have none : ∀ m, lowestLevel s.events = some m → ¬m < e.level := fun m hm h => low ⟨m, hm, h⟩
      rw [decideOffer_discards room none]
      exact decideOffer_discards (s := tablesOf t s) room none

theorem offer_tablesOf (e : EventBody) (t s : State) : offer e (tablesOf t s) = tablesOf t (offer e s) := by
  rw [offer, removeCollision_tablesOf, decideOffer_tablesOf]
  rfl

theorem offerAll_tablesOf (es : List EventBody) (t s : State) :
    offerAll es (tablesOf t s) = tablesOf t (offerAll es s) := by
  induction es generalizing s with
  | nil => rfl
  | cons e es ih => rw [offerAll_cons, offer_tablesOf, ih, offerAll_cons]

namespace TableWork

/-! ### The relation composes -/

theorem refl (s : State) : TableWork s s := ⟨⟨[], rfl⟩, id⟩

theorem trans {s t u : State} (first : TableWork s t) (second : TableWork t u) : TableWork s u := by
  obtain ⟨⟨es, ht⟩, opens⟩ := first
  obtain ⟨⟨fs, hu⟩, opens'⟩ := second
  refine ⟨⟨es ++ fs, ?_⟩, opens ∘ opens'⟩
  calc
    u = tablesOf u (offerAll fs t) := hu
    _ = tablesOf u (offerAll fs (tablesOf t (offerAll es s))) := by rw [← ht]
    _ = tablesOf u (offerAll (es ++ fs) s) := by rw [offerAll_tablesOf, offerAll_append]; rfl

/-- A change of the tables alone. -/
theorem of_tables {s t : State} (h : t = tablesOf t s) (opens : stagingOpen t = true → stagingOpen s = true) :
    TableWork s t := ⟨⟨[], h⟩, opens⟩

theorem stagingOpen_congr {s t : State} (h : t.staging = s.staging) : stagingOpen t = stagingOpen s := by
  simp only [stagingOpen, h]

theorem stagingOpen_of_empty {s : State} (h : s.staging = .empty) : stagingOpen s = false := by
  simp only [stagingOpen, h]

/-! ### Offers and updates -/

theorem offers (es : List EventBody) (s : State) : TableWork s (offerAll es s) :=
  ⟨⟨es, by conv_lhs => rw [offerAll_eq]
           conv_rhs => rw [offerAll_eq]
           rfl⟩, by rw [stagingOpen_congr (offerAll_staging es s)]; exact id⟩

theorem offers_one (e : EventBody) (s : State) : TableWork s (offer e s) := offers [e] s

theorem slot (k : SlotIndex) (f : Slot → Slot) (s : State) : TableWork s (s.modifySlot k f) := of_tables rfl id

theorem countsSlot (k : SlotIndex) (c : SlotCounter) (s : State) : TableWork s (s.countSlot k c) := of_tables rfl id

theorem slots (f : Slot → Slot) (s : State) : TableWork s (s.modifySlots f) := of_tables rfl id

theorem clearsHits (s : State) : TableWork s s.clearHits := by
  have entries : s.clearHits = { s with entries := s.clearHits.entries } := rfl
  generalize s.clearHits.entries = cleared at entries
  rw [entries]
  exact of_tables rfl id

theorem context (i : ContextIndex) (c : Option Context) (s : State) : TableWork s (s.setContext i c) := of_tables rfl id

theorem entry (i : EntryIndex) (e : MatchEntry) (s : State) : TableWork s (s.setEntry i e) := of_tables rfl id

theorem mode (m : Mode) (s : State) : TableWork s { s with mode := m } := of_tables rfl id

theorem staging_empty (s : State) : TableWork s { s with staging := .empty } := of_tables rfl nofun

end TableWork

/-! ### The watch engine's own work -/

/-- From `s`, events are offered, slots and contexts are written, and the staging buffer is emptied or made PENDING. -/
inductive WatchWork (s : State) : State → Prop where
  | refl : WatchWork s s
  | offer (e : EventBody) {t : State} (h : WatchWork s t) : WatchWork s (offer e t)
  | slots (x : Vector Slot 8) {t : State} (h : WatchWork s t) : WatchWork s { t with slots := x }
  | contexts (x : Vector (Option Context) 96) {t : State} (h : WatchWork s t) : WatchWork s { t with contexts := x }
  | staging (x : Staging) (shut : ∀ img, x ≠ .opened img) {t : State} (h : WatchWork s t) :
      WatchWork s { t with staging := x }

namespace WatchWork

theorem trans {s t u : State} (first : WatchWork s t) (second : WatchWork t u) : WatchWork s u := by
  induction second with
  | refl => exact first
  | offer e _ ih => exact ih.offer e
  | slots x _ ih => exact ih.slots x
  | contexts x _ ih => exact ih.contexts x
  | staging x shut _ ih => exact ih.staging x shut

/-- It is table work. -/
theorem tables {s t : State} (h : WatchWork s t) : TableWork s t := by
  induction h with
  | refl => exact TableWork.refl s
  | offer e _ ih => exact ih.trans (TableWork.offers_one e _)
  | slots x _ ih => exact ih.trans (TableWork.of_tables rfl id)
  | contexts x _ ih => exact ih.trans (TableWork.of_tables rfl id)
  | staging x shut _ ih =>
    refine ih.trans (TableWork.of_tables rfl (fun opens => ?_))
    cases x with
    | opened img => exact absurd rfl (shut img)
    | empty => cases opens
    | pending => cases opens

/-- The classifier's items are left alone. -/
theorem classifier {s t : State} (h : WatchWork s t) :
    t.mode = s.mode ∧ t.faultLatch = s.faultLatch ∧ t.entries = s.entries ∧ t.defaultAction = s.defaultAction := by
  induction h with
  | refl => exact ⟨rfl, rfl, rfl, rfl⟩
  | offer e _ ih => simpa using ih
  | slots x _ ih => exact ih
  | contexts x _ ih => exact ih
  | staging x shut _ ih => exact ih

/-! ### Offers and updates -/

theorem offers_one (e : EventBody) (s : State) : WatchWork s (Machine.offer e s) := refl.offer e

theorem offers (es : List EventBody) (s : State) : WatchWork s (offerAll es s) := by
  induction es generalizing s with
  | nil => exact refl
  | cons e es ih => exact (offers_one e s).trans (ih _)

theorem slot (k : SlotIndex) (f : Slot → Slot) (s : State) : WatchWork s (s.modifySlot k f) := refl.slots _

theorem countsSlot (k : SlotIndex) (c : SlotCounter) (s : State) : WatchWork s (s.countSlot k c) := refl.slots _

theorem everySlot (f : Slot → Slot) (s : State) : WatchWork s (s.modifySlots f) := refl.slots _

theorem context (i : ContextIndex) (c : Option Context) (s : State) : WatchWork s (s.setContext i c) := refl.contexts _

theorem staging_empty (s : State) : WatchWork s { s with staging := .empty } := refl.staging .empty nofun

theorem installs (k : SlotIndex) (img : Image) (s : State) : WatchWork s (install k img s) := slot k _ s

/-! ### Ends and installs -/

theorem drain (k : SlotIndex) (s : State) : WatchWork s (completeDrain k s).1 := by
  simp only [completeDrain]
  repeat' split
  · exact (staging_empty s).trans (slot _ _ _)
  · exact refl
  · exact refl

theorem drainIfDone (k : SlotIndex) (s : State) : WatchWork s (drainIfDone k s).1 := by
  simp only [Machine.drainIfDone]
  repeat' split
  · exact drain k s
  · exact refl
  · exact refl

theorem ends (i : ContextIndex) (r : EndReason) (s : State) : WatchWork s (endContext i r s).1 := by
  simp only [endContext]
  split
  · exact refl
  · exact (((context _ _ _).trans (slot _ _ _)).trans (everySlot _ _)).trans (drainIfDone _ _)

theorem endsNext (which : Context → Bool) (r : EndReason) (e : Ended) (i : ContextIndex) :
    WatchWork e.state (endNext which r e i).state := by
  simp only [endNext]
  repeat' split
  · exact refl
  · exact ends i r e.state
  · exact refl

theorem endsAll (which : Context → Bool) (r : EndReason) (s : State) : WatchWork s (endContexts which r s).state := by
  have fold : ∀ (l : List ContextIndex) (e : Ended), WatchWork e.state (l.foldl (endNext which r) e).state := by
    intro l
    induction l with
    | nil => exact fun e => refl
    | cons i l ih => exact fun e => (endsNext which r e i).trans (ih _)
  exact fold contextIndices ⟨s, 0, []⟩

theorem removes (k : SlotIndex) (r : EndReason) (s : State) : WatchWork s (removeProgram k r s).state := by
  simp only [removeProgram]
  split
  · exact (endsAll _ r s).trans (slot _ _ _)
  · exact endsAll _ r s

/-! ### Evaluation -/

theorem alarm (k : SlotIndex) (a b : Byte) (before after : StateIndex) (s : State) :
    WatchWork s (alarmEntry k a b before after s).1 := by
  simp only [alarmEntry]
  split
  · exact refl
  · exact slot k (fun x => { x with latched := true }) s

theorem enters (i : ContextIndex) (img : Image) (c : Context) (t : StateIndex) (s : State) :
    WatchWork s (enterState i img c t s).1 := by
  simp only [enterState]
  have entered : WatchWork s _ := (context i (some (armed img s.tick t c)) s).trans (slot c.slot (fun x =>
    { x with liveAlarms := moveAlarm (img.state c.state).alarm (img.state t).alarm x.liveAlarms }) _)
  split
  · exact entered.trans (alarm ..)
  · exact entered

theorem moves (i : ContextIndex) (img : Image) (c : Context) (m : Option Target) (s : State) :
    WatchWork s (applyMove i img c m s).1 := by
  rcases m with _ | t | _
  · exact context i _ s
  · exact enters i img c t s
  · exact ends i .finish s

theorem finishes (i : ContextIndex) (img : Image) (c : Context) (m : Option Target) (cls : EventClass)
    (event : Option EventSetting) (verdict : Verdict) (f : Frame) (s : State) :
    WatchWork s (finishFrame i img c m cls event verdict f s).state :=
  (moves i img c m s).trans (offers _ _)

theorem live (i : ContextIndex) (img : Image) (c : Context) (f : Frame) (s : State) :
    WatchWork s (evaluateLive i img c f s).state := by
  unfold evaluateLive
  repeat' split
  · exact (countsSlot ..).trans (finishes ..)
  · exact finishes ..
  · exact (countsSlot ..).trans (finishes ..)

theorem creates (k : SlotIndex) (img : Image) (f : Frame) (t : StateIndex) (i : ContextIndex) (s : State) :
    WatchWork s (createContext k img f t i s).1 := by
  simp only [createContext]
  split
  · exact ((context _ _ s).trans (slot _ _ _)).trans (alarm ..)
  · dsimp only
    exact (context _ _ s).trans (slot _ _ _)

theorem refuses (k : SlotIndex) (img : Image) (f : Frame) (s : State) :
    WatchWork s (refuseAnchor k img f s).state := by
  simp only [refuseAnchor]
  split
  · exact countsSlot ..
  · exact ((countsSlot ..).trans (slot _ _ _)).trans (offers_one _ _)

theorem anchors (k : SlotIndex) (img : Image) (f : Frame) (s : State) :
    WatchWork s (anchorAttempt k img f s).state := by
  unfold anchorAttempt takeAnchor
  repeat' split
  · exact offers _ s
  · exact (creates ..).trans (offers _ _)
  · exact refuses ..
  · exact countsSlot ..

theorem evaluates (k : SlotIndex) (img : Image) (draining : Bool) (f : Frame) (s : State) :
    WatchWork s (evaluateSound k img draining f s).state := by
  unfold evaluateSound
  repeat' split
  · exact live ..
  · exact countsSlot ..
  · exact countsSlot ..
  · exact anchors ..

theorem expiresContext (i : ContextIndex) (img : Image) (c : Context) (s : State) :
    WatchWork s (expireContext i img c s) := by
  simp only [expireContext]
  split
  · exact (ends ..).trans (offers _ _)
  · exact (enters ..).trans (offers _ _)

/-! ### The program store and the latches -/

theorem commitsNow (k : SlotIndex) (img : Image) (s : State) : WatchWork s (commitNow k img s).state := by
  simp only [commitNow]
  have told : ∀ (e : EventBody) (n : Nat) (u : State), WatchWork u (if 0 < n then Machine.offer e u else u) := by
    intro e n u
    split
    · exact offers_one e u
    · exact refl
  exact ((((endsAll _ _ s).trans (offers _ _)).trans (told _ _ _)).trans (installs _ _ _)).trans (staging_empty _)

theorem commitsImage (d : Bool) (k : SlotIndex) (img : Image) (s : State) :
    WatchWork s (commitImage d k img s).state := by
  unfold commitImage
  repeat' split
  · exact commitsNow ..
  · exact (refl.staging (.pending _ _) nofun).trans (slot _ _ _)
  · exact commitsNow ..

theorem commits (params : List Byte) (s : State) : WatchWork s (performStageCommit params s).state := by
  unfold performStageCommit
  repeat' split
  · exact refl
  · exact commitsImage ..
  · exact refl
  · exact refl
  · exact refl
  · exact refl

theorem discards (s : State) : WatchWork s (discardStaging s) := by
  unfold discardStaging
  split
  · exact (staging_empty s).trans (slot _ _ _)
  · exact staging_empty s
  · exact refl

theorem aborts (s : State) : WatchWork s (performStageAbort s).state := by
  unfold performStageAbort
  split
  · exact discards s
  · exact discards s
  · exact refl

theorem erasesActive (k : SlotIndex) (s : State) : WatchWork s (eraseActive k s).state :=
  ((removes _ _ s).trans (slot _ _ _)).trans (offers _ _)

theorem erases (params : List Byte) (s : State) : WatchWork s (performEraseSlot params s).state := by
  unfold performEraseSlot
  repeat' split
  · exact refl
  · exact refl
  · exact erasesActive ..
  · exact refl
  · exact refl

theorem clearsAlarms (params : List Byte) (s : State) : WatchWork s (performClearAlarms params s).state := by
  unfold performClearAlarms
  split
  · exact refl.slots _
  · exact refl


end WatchWork

namespace TableWork

/-! ### Integrity faults -/

theorem latch (l : Location) (s : State) : TableWork s (latchFault l s) := by
  unfold latchFault
  split
  · exact of_tables rfl id
  · exact refl s

theorem removesFaulty (l : Location) (s : State) : TableWork s (removeFaulty l s).state := by
  cases l with
  | matchEntry i => exact entry i .cleared s
  | program k => exact (WatchWork.removes k .fault s).tables
  | context i => exact (WatchWork.endsNext _ .fault ⟨s, 0, []⟩ i).tables

theorem bypasses (r : EndReason) (s : State) : TableWork s (changeToBypass r s).state :=
  (mode .bypass s).trans (WatchWork.endsAll _ r _).tables

theorem faultBypasses (e : Ended) (s : State) : TableWork s (faultToBypass e s) := by
  unfold faultToBypass
  split
  · exact offers _ s
  · exact ((bypasses .fault s).trans (offers _ _)).trans (offers_one _ _)

theorem faults (l : Location) (s : State) : TableWork s (integrityFault l s) :=
  (((removesFaulty l s).trans (latch l _)).trans (offers_one _ _)).trans (faultBypasses _ _)

/-! ### Evaluation and expiry -/

theorem holdOnAlarm_state (k : SlotIndex) (e : Evaluated) : (holdOnAlarm k e).state = e.state := by
  unfold holdOnAlarm
  split <;> rfl

theorem watches (k : SlotIndex) (img : Image) (draining : Bool) (f : Frame) (d : Damage) (s : State) :
    TableWork s (watchFrame k img draining f d s).state := by
  simp only [watchFrame]
  repeat' split
  · rw [holdOnAlarm_state]; exact refl s
  · exact faults _ s
  · rw [holdOnAlarm_state]; exact (WatchWork.evaluates ..).tables

theorem acts (a : Action) (f : Frame) (d : Damage) (s : State) : TableWork s (actOn a f d s).state := by
  unfold actOn
  repeat' split
  · exact refl s
  · exact refl s
  · exact refl s
  · exact watches ..
  · exact watches ..

/-- R25 to R28, R37: classification. -/
theorem classifies (p : Port) (f : Frame) (d : Damage) (s : State) : TableWork s (classify p f d s).state := by
  unfold classify
  split
  · exact faults _ s
  · exact (entry _ _ s).trans (acts ..)
  · exact refl s

/-- R116 to R120: an expiry. -/
theorem expires (i : ContextIndex) (d : Damage) (s : State) : TableWork s (expireIfDue i d s) := by
  simp only [expireIfDue, takeExpiry]
  repeat' split
  · exact refl s
  · exact faults _ s
  · exact refl s
  · exact faults _ s
  · exact (WatchWork.expiresContext ..).tables
  · exact refl s

/-! ### Requests -/

theorem changesMode (m : Mode) (s : State) : TableWork s (changeMode m s).1 := by
  have ended : TableWork s (offerAll (changeToBypass .mode s).events (changeToBypass .mode s).state) :=
    (bypasses .mode s).trans (offers _ _)
  simp only [changeMode]
  repeat' split
  · exact refl s
  · dsimp only
    exact ended.trans (offers_one _ _)
  · exact (mode m s).trans (offers_one _ _)

theorem setsMode (params : List Byte) (s : State) : TableWork s (performSetMode params s).state := by
  have takes (a : Verdict) : TableWork s { s with defaultAction := a } := of_tables rfl id
  unfold performSetMode
  repeat' split
  · exact refl s
  · exact (takes _).trans (changesMode _ _)
  · exact refl s
  · exact refl s

theorem clearsFault (s : State) : TableWork s (performClearFault s).state := of_tables rfl id

theorem writesMatch (params : List Byte) (s : State) : TableWork s (performWriteMatch params s).state := by
  unfold performWriteMatch
  split
  · exact refl s
  · exact entry _ _ s

theorem readsMatch (params : List Byte) (d : Damage) (s : State) : TableWork s (performReadMatch params d s).state := by
  simp only [performReadMatch]
  repeat' split
  · exact refl s
  · exact faults _ s
  · exact refl s
  · exact refl s

theorem readsImage (k : SlotIndex) (d : Damage) (s : State) : TableWork s (readImage k d s) := by
  unfold readImage
  split
  · exact faults _ s
  · exact refl s

theorem readsSlot (params : List Byte) (d : Damage) (s : State) : TableWork s (performReadSlot params d s).state := by
  simp only [performReadSlot]
  repeat' split
  · exact readsImage ..
  · exact refl s
  · exact refl s

theorem readsTransition (params : List Byte) (d : Damage) (s : State) :
    TableWork s (performReadTransition params d s).state := by
  simp only [performReadTransition]
  repeat' split
  · exact readsImage ..
  · exact readsImage ..
  · exact refl s
  · exact refl s

theorem readsRecord (i : ContextIndex) (d : Damage) (s : State) : TableWork s (readRecord i d s) := by
  unfold readRecord
  split
  · exact faults _ s
  · exact refl s

theorem readsContext (params : List Byte) (d : Damage) (s : State) :
    TableWork s (performReadContext params d s).state := by
  simp only [performReadContext]
  repeat' split
  · exact refl s
  · exact readsRecord ..
  · exact refl s

theorem finds (params : List Byte) (d : Damage) (s : State) : TableWork s (performFindContexts params d s).state := by
  simp only [performFindContexts, scanTable]
  repeat' split
  · exact readsRecord ..
  · exact refl s
  · exact refl s
  · exact refl s
  · exact refl s

theorem forces (i : ContextIndex) (g : Option Guard) (d : Damage) (s : State) :
    TableWork s (endChecked i g d s).state := by
  simp only [endChecked, forceEnd]
  repeat' split
  · exact refl s
  · exact faults _ s
  · exact ((WatchWork.ends ..).trans (WatchWork.offers _ _)).tables
  · exact refl s

theorem endsContext (params : List Byte) (d : Damage) (s : State) : TableWork s (performEndContext params d s).state := by
  unfold performEndContext
  repeat' split
  · exact refl s
  · exact forces ..
  · exact refl s
  · exact forces ..
  · exact refl s
  · exact refl s

theorem writesImage (f : Image → Image) (s : State) : TableWork s (writeImage f s).state := by
  unfold writeImage
  split
  · exact of_tables rfl (fun _ => by simp [stagingOpen, *])
  · exact refl s
  · exact refl s

theorem stagesHeader (params : List Byte) (s : State) : TableWork s (performStageHeader params s).state := by
  unfold performStageHeader
  split
  · exact refl s
  · exact writesImage ..

theorem stagesState (params : List Byte) (s : State) : TableWork s (performStageState params s).state := by
  unfold performStageState
  split
  · exact refl s
  · exact writesImage ..

theorem stagesTransition (params : List Byte) (s : State) : TableWork s (performStageTransition params s).state := by
  unfold performStageTransition
  repeat' split
  · exact refl s
  · exact writesImage ..
  · exact refl s
  · exact writesImage ..






/-- The requests that have an effect beyond the tables: the others do table work. -/
theorem performs {c : RequestCode} {source : Byte} {params : List Byte} {d : Damage} {s : State}
    (h : c ∉ [.claim, .release, .setAddress, .setManagers, .stageBegin, .clearCounters, .pollEvents, .setCollector]) :
    TableWork s (perform c source params d s).state := by
  cases c
  case identify | restart | readAlarms | reportAck | readReportStatus => exact refl s
  case setMode => exact setsMode params s
  case clearFault => exact clearsFault s
  case writeMatch => exact writesMatch params s
  case readMatch => exact readsMatch params d s
  case stageHeader => exact stagesHeader params s
  case stageState => exact stagesState params s
  case stageTransition => exact stagesTransition params s
  case stageCommit => exact (WatchWork.commits params s).tables
  case stageAbort => exact (WatchWork.aborts s).tables
  case eraseSlot => exact (WatchWork.erases params s).tables
  case readSlot => exact readsSlot params d s
  case readTransition => exact readsTransition params d s
  case readContext => exact readsContext params d s
  case findContexts => exact finds params d s
  case endContext => exact endsContext params d s
  case clearAlarms => exact (WatchWork.clearsAlarms params s).tables
  case readPortCounters =>
    simp only [perform, performReadPortCounters]
    repeat' split
    all_goals exact refl s
  case readSlotCounters =>
    simp only [perform, performReadSlotCounters]
    repeat' split
    all_goals exact refl s
  all_goals exact absurd (by decide) h

/-! ### What table work leaves -/

section Frame

variable {s t : State} (h : TableWork s t)

include h

theorem portA_eq : t.portA = s.portA := by obtain ⟨⟨es, e⟩, -⟩ := h; rw [e]; exact offerAll_portA es s
theorem portB_eq : t.portB = s.portB := by obtain ⟨⟨es, e⟩, -⟩ := h; rw [e]; exact offerAll_portB es s
theorem port_eq (p : Port) : t.port p = s.port p := State.port_congr h.portA_eq h.portB_eq p
theorem resetHeld_eq : t.resetHeld = s.resetHeld := by obtain ⟨⟨es, e⟩, -⟩ := h; rw [e]; exact offerAll_resetHeld es s
theorem tick_eq : t.tick = s.tick := by obtain ⟨⟨es, e⟩, -⟩ := h; rw [e]; exact offerAll_tick es s
theorem collector_eq : t.collector = s.collector := by obtain ⟨⟨es, e⟩, -⟩ := h; rw [e]; exact offerAll_collector es s
theorem report_eq : t.report = s.report := by obtain ⟨⟨es, e⟩, -⟩ := h; rw [e]; exact offerAll_report es s
theorem ownAddress_eq : t.ownAddress = s.ownAddress := by
  obtain ⟨⟨es, e⟩, -⟩ := h; rw [e]; exact offerAll_ownAddress es s
theorem managers_eq : t.managers = s.managers := by obtain ⟨⟨es, e⟩, -⟩ := h; rw [e]; exact offerAll_managers es s
theorem lock_eq : t.lock = s.lock := by obtain ⟨⟨es, e⟩, -⟩ := h; rw [e]; exact offerAll_lock es s
theorem responses_eq : t.responses = s.responses := by obtain ⟨⟨es, e⟩, -⟩ := h; rw [e]; exact offerAll_responses es s
theorem cache_eq : t.cache = s.cache := by obtain ⟨⟨es, e⟩, -⟩ := h; rw [e]; exact offerAll_cache es s

/-- R127: the queue has taken the offers, and nothing else has happened to it. -/
theorem events_eq : ∃ es, t.events = (offerAll es s).events := by
  obtain ⟨⟨es, e⟩, -⟩ := h
  exact ⟨es, by rw [e]; rfl⟩

end Frame

end TableWork

end Sys2Proof.Machine
end

section
/-! SUPPORT. What a request can do, said once (R158): a law that survives the placing of a response, the entry of the
reply cache, the renewal of the lease, the acknowledgement of a report, each request's own rule and a restart survives
every request. -/

namespace Sys2Proof.Machine

open Sys2Proof.Safety

/-! ### What a request's own rule leaves to its answer -/

/-- R12, R14: the settling of a count changes one port's count. -/
theorem settleCount_eq (p : Port) (s : State) :
    settleCount p s =
      s.modifyPort p (fun q => { q with consecutive := if localEmpty p s = true then 0 else q.consecutive }) := by
  unfold settleCount
  split
  · rfl
  · exact (State.setPort_self p s).symm

theorem settleCount_port_ne {p p' : Port} (h : p' ≠ p) (s : State) : (settleCount p s).port p' = s.port p' := by
  rw [settleCount_eq]
  exact State.setPort_port_ne h _ s

/-- R141 step 1, R151: the settling of a count, at the links and at what waits. -/
theorem settleCollectorPort_responses (s : State) : (settleCollectorPort s).responses = s.responses := by
  unfold settleCollectorPort
  split
  · rw [settleCount_eq, State.modifyPort_responses]
  · rfl

theorem settleCollectorPort_up (s : State) (p : Port) : ((settleCollectorPort s).port p).up = (s.port p).up := by
  unfold settleCollectorPort
  split
  · rename_i q _
    by_cases h : p = q
    · rw [h, settleCount_eq, State.modifyPort_port_same]
    · rw [settleCount_port_ne h]
  · rfl

theorem dropCurrent_responses (s : State) : (dropCurrent s).responses = s.responses := by
  unfold dropCurrent
  split
  case h_1 => exact settleCollectorPort_responses _
  all_goals rfl

theorem dropCurrent_up (s : State) (p : Port) : ((dropCurrent s).port p).up = (s.port p).up := by
  unfold dropCurrent
  split
  case h_1 => exact settleCollectorPort_up _ p
  all_goals rfl

/-- R164: the lock and the staging buffer alone change when the lock becomes FREE. -/
theorem freeLock_eq (s : State) : freeLock s = { s with lock := none, staging := (discardOpen s).staging } := by
  rcases h : s.staging with _ | _ | _ <;> simp [freeLock, discardOpen, h]

theorem performClaim_state_eq (source : Byte) (params : List Byte) (s : State) :
    (performClaim source params s).state = { s with lock := (performClaim source params s).state.lock } := by
  unfold performClaim claimLock
  repeat' split
  all_goals rfl

theorem performSetAddress_state_eq (params : List Byte) (s : State) :
    (performSetAddress params s).state = { s with ownAddress := (performSetAddress params s).state.ownAddress } := by
  unfold performSetAddress
  repeat' split
  all_goals rfl

theorem performSetManagers_state_eq (source : Byte) (params : List Byte) (s : State) :
    (performSetManagers source params s).state =
      { s with managers := (performSetManagers source params s).state.managers } := by
  unfold performSetManagers
  repeat' split
  all_goals rfl

theorem performStageBegin_state_eq (s : State) :
    (performStageBegin s).state = { s with staging := (performStageBegin s).state.staging } := by
  unfold performStageBegin
  split <;> rfl

theorem performPollEvents_state_eq (s : State) :
    (performPollEvents s).state =
      { s with
        events := (performPollEvents s).state.events, lostCount := (performPollEvents s).state.lostCount } := by
  unfold performPollEvents
  split <;> rfl

theorem performClearCounters_responses (params : List Byte) (s : State) :
    (performClearCounters params s).state.responses = s.responses := by
  unfold performClearCounters
  repeat' split
  · rfl
  · rename_i c _
    rcases c with p | k | _
    · cases p <;> rfl
    · rfl
    · rfl
  · rfl

theorem performClearCounters_up (params : List Byte) (s : State) (p : Port) :
    ((performClearCounters params s).state.port p).up = (s.port p).up := by
  unfold performClearCounters
  repeat' split
  · rfl
  · rename_i c _
    rcases c with q | k | _
    · cases q <;> cases p <;> rfl
    · rfl
    · cases p <;> rfl
  · rfl

theorem performSetCollector_responses (params : List Byte) (s : State) :
    (performSetCollector params s).state.responses = s.responses := by
  unfold performSetCollector
  split
  · rfl
  · exact dropCurrent_responses s

theorem performSetCollector_up (params : List Byte) (s : State) (p : Port) :
    ((performSetCollector params s).state.port p).up = (s.port p).up := by
  unfold performSetCollector
  split
  · rfl
  · exact dropCurrent_up s p

/-- R153: no request's own rule touches the response slots. -/
theorem perform_responses (c : RequestCode) (source : Byte) (params : List Byte) (d : Damage) (s : State) :
    (perform c source params d s).state.responses = s.responses := by
  cases c
  case claim => rw [perform, performClaim_state_eq]
  case release => rw [perform, performRelease, freeLock_eq]
  case setAddress => rw [perform, performSetAddress_state_eq]
  case setManagers => rw [perform, performSetManagers_state_eq]
  case stageBegin => rw [perform, performStageBegin_state_eq]
  case pollEvents => rw [perform, performPollEvents_state_eq]
  case clearCounters => exact performClearCounters_responses params s
  case setCollector => exact performSetCollector_responses params s
  all_goals exact (TableWork.performs (by decide)).responses_eq

/-- R153: no request's own rule touches a link. -/
theorem perform_up (c : RequestCode) (source : Byte) (params : List Byte) (d : Damage) (s : State) (p : Port) :
    ((perform c source params d s).state.port p).up = (s.port p).up := by
  cases c
  case claim => rw [perform, performClaim_state_eq]; rfl
  case release => rw [perform, performRelease, freeLock_eq]; rfl
  case setAddress => rw [perform, performSetAddress_state_eq]; rfl
  case setManagers => rw [perform, performSetManagers_state_eq]; rfl
  case stageBegin => rw [perform, performStageBegin_state_eq]; rfl
  case pollEvents => rw [perform, performPollEvents_state_eq]; rfl
  case clearCounters => exact performClearCounters_up params s p
  case setCollector => exact performSetCollector_up params s p
  all_goals rw [(TableWork.performs (by decide)).port_eq]

/-! ### The renewal (R158 check 9) -/

theorem renew_eq (source : Byte) (s : State) : renew source s = { s with lock := (renew source s).lock } := by
  unfold renew
  repeat' split
  all_goals rfl

theorem holder_renew (source : Byte) (s : State) : holder (renew source s) = holder s := by
  unfold renew
  repeat' split
  all_goals simp_all [holder]

/-! ### The law -/

/-- R158 checks 6 to 8: the request with code `c` from `source` has passed the checks. -/
structure Passes (c : RequestCode) (source : Byte) (params : List Byte) (s : State) : Prop where
  node : source ≠ 255#8
  manager : s.managers = [] ∨ source ∈ s.managers
  lock : authority c = .lock → holder s = some source
  length : acceptsLength c params.length = true

/-- A law that survives the parts of a request. -/
structure KeptByRequests (P : State → Prop) : Prop where
  overrun : ∀ (n : Word32) (s : State), P s → P { s with overruns := n }
  place : ∀ (x : Response) (s : State), P s → s.responses.length < 2 → (s.port x.port).up = true → P (placeResponse x s)
  cache : ∀ (r : Request) (payload : List Byte) (s : State), P s → P (updateCache r payload s)
  ack : ∀ (source : Byte) (params : List Byte) (s : State), P s → P (takeAck source params s)
  renew : ∀ (source : Byte) (s : State), P s → P (renew source s)
  perform : ∀ (c : RequestCode) (source : Byte) (params : List Byte) (d : Damage) (s : State), P s →
    Passes c source params s → P (perform c source params d s).state
  restart : ∀ s : State, P s → P (restartPart s)

namespace KeptByRequests

variable {P : State → Prop} (kept : KeptByRequests P)

include kept

theorem respond (own : Byte) (r : Request) (st : Status) (data : List Byte) {s : State} (h : P s)
    (room : s.responses.length < 2) (up : (s.port r.port).up = true) : P (respond own r st data s) :=
  kept.cache r _ _ (kept.place _ s h room up)

theorem carryOut {c : RequestCode} {r : Request} {params : List Byte} (d : Damage) {s : State} (h : P s)
    (room : s.responses.length < 2) (up : (s.port r.port).up = true) (passes : Passes c r.source params s) :
    P (carryOut c r params d s) := by
  unfold Machine.carryOut
  split
  · exact kept.restart _ (kept.respond _ r .ok [] h room up)
  · exact kept.respond _ r _ _ (kept.perform _ _ _ d s h passes) (by rwa [perform_responses]) (by rwa [perform_up])

theorem checkAuthority (c : RequestCode) {r : Request} (params : List Byte) (d : Damage) {s : State} (h : P s)
    (room : s.responses.length < 2) (node : r.source ≠ 255#8) (up : (s.port r.port).up = true) :
    P (checkAuthority c r params d s) := by
  unfold Machine.checkAuthority
  have refused := fun st data => kept.respond s.ownAddress r st data h room up
  split
  · exact refused ..
  split
  · exact refused ..
  split
  · exact refused ..
  rename_i manager lock length
  have renewal := renew_eq r.source s
  refine kept.carryOut d (kept.renew r.source s h) (by rwa [renewal]) (by rw [renewal]; exact up)
    ⟨node, ?_, ?_, by simpa using length⟩
  · rw [renewal]
    simpa [managerAdmits, or_iff_not_imp_left] using manager
  · intro needs
    rw [holder_renew]
    simpa [lockAdmits, needs] using lock

theorem checkForm {r : Request} (d : Damage) {s : State} (h : P s) (room : s.responses.length < 2)
    (admitted : r.admitted s) : P (checkForm r d s) := by
  obtain ⟨node, -, up⟩ := admitted
  have refused := kept.respond s.ownAddress r .badRequest [] h room up
  unfold Machine.checkForm checkKnown
  repeat' split
  · exact kept.ack _ _ s h
  · exact kept.respond _ _ _ _ h room up
  · exact kept.checkAuthority _ _ d h room node up
  · exact refused
  · exact refused

theorem request {r : Request} (d : Damage) {s : State} (h : P s) (admitted : r.admitted s) : P (takeRequest r d s) := by
  unfold takeRequest checkRepeat answerRepeat
  split
  · exact kept.overrun _ s h
  · rename_i full
    have room : s.responses.length < 2 := Nat.lt_of_not_le full
    repeat' split
    · exact h
    · exact kept.place _ s h room admitted.2.2
    · exact kept.checkForm d h room admitted

end KeptByRequests

end Sys2Proof.Machine
end

section
/-! SUPPORT. What a selection of the egress arbiter leaves (R12 to R14), said once for each choice it makes; with the
statements on END_OF_TRANSMISSION and on how long the first response can wait (section 1.6). -/

namespace Sys2Proof.Machine

open Sys2Proof.Safety

/-! ### The choice (R14) -/

section Choice

variable {p : Port} {s : State}

/-- R12: a response at the port is in the local group. -/
theorem localEmpty_of_response {before after : List Response} {r : Response} (hs : s.responses = before ++ r :: after)
    (hr : r.port = p) : localEmpty p s = false := by
  simp [localEmpty, hs, hr]

/-- R12: a waiting report is in the local group. -/
theorem localEmpty_of_report {node : Byte} (h : reportWaiting p s = some node) : localEmpty p s = false := by
  simp [localEmpty, h]

/-- R14: the local group is served when no transit frame waits, or a local one does and the count is 4. -/
theorem choose_local (h : (s.port p).queue = [] ∨ (s.port p).consecutive = 4) (hl : localEmpty p s = false) :
    choose p s = firstLocal p s := by
  cases hq : (s.port p).queue with
  | nil => exact choose_of_queue_nil hq
  | cons f rest =>
    have full : (s.port p).consecutive = 4 := by simpa [hq] using h
    rw [choose_of_queue_cons hq, if_pos ⟨hl, full⟩]

/-- R12: without a response at the port the report is the first local frame. -/
theorem firstLocal_report {node : Byte} (hs : ∀ r ∈ s.responses, r.port ≠ p) (h : reportWaiting p s = some node) :
    firstLocal p s = .report node := by
  have none : s.responses.find? (fun r => r.port == p) = none := List.find?_eq_none.2 (by simpa using hs)
  simp only [firstLocal, none, h]

/-- R12: an empty local group has no first frame. -/
theorem firstLocal_nothing (h : localEmpty p s = true) : firstLocal p s = .nothing := by
  obtain ⟨hs, hr⟩ := (localEmpty_iff p s).1 h
  have none : s.responses.find? (fun r => r.port == p) = none := List.find?_eq_none.2 (by simpa using hs)
  simp only [firstLocal, none, hr]

end Choice

/-! ### The start of a transmission (R13, R14) -/

/-- R13, R14: the port once it sends a local frame. -/
def sendLocal (frame : List Byte) (q : PortState) : PortState :=
  { q with
    sending := some frame, consecutive := 0
    counters := { q.counters with localSent := satAdd q.counters.localSent 1 } }

/-- R13, R14: the port once it sends the head of its transit queue, with or without a local frame waiting. -/
def sendTransit (frame : List Byte) (rest : List (List Byte)) (alone : Bool) (q : PortState) : PortState :=
  { q with
    sending := some frame, queue := rest, consecutive := if alone then 0 else q.consecutive + 1
    counters := { q.counters with transitSent := satAdd q.counters.transitSent 1 } }

/-- R144: in ACK mode the selected report awaits its acknowledgement. -/
theorem reportSelected_ack {s : State} (h : s.collector.ackMode = .ack) :
    reportSelected s =
      { s with report := { s.report with phase := .awaitAck, retryTimer := s.collector.retryTimeout } } := by
  simp only [reportSelected, h]

/-- R133, R144: in NOACK mode the selected report is delivered, and the unit pauses for the pacing gap. -/
theorem reportSelected_noAck {s : State} (h : s.collector.ackMode = .noAck) :
    reportSelected s =
      { s with
        events := s.events.filter (fun e => !e.pinned)
        report := { s.report with
          phase := if s.collector.pacingGap = 0 then .idle else .gap
          captured := 0, retryCount := 0, retryTimer := 0, gapTimer := s.collector.pacingGap, records := [] } } := by
  simp only [reportSelected, h]
  exact endReport_eq_closeReport (deliverPinned s)

theorem reportSelected_setPort (p : Port) (q : PortState) (s : State) :
    reportSelected (s.setPort p q) = (reportSelected s).setPort p q := by
  cases mode : s.collector.ackMode with
  | ack =>
    rw [reportSelected_ack mode, reportSelected_ack (by simpa using mode)]
    cases p <;> rfl
  | noAck =>
    rw [reportSelected_noAck mode, reportSelected_noAck (by simpa using mode)]
    cases p <;> rfl

section Selection

variable {p : Port} {s : State} (up : (s.port p).up = true) (free : (s.port p).sending = none)

include up free

theorem select_of_free : select p s = makeSelection p s := by simp [select, up, free]

/-- R13: with nothing waiting the transmitter stays IDLE. -/
theorem select_nothing (hq : (s.port p).queue = []) (hl : localEmpty p s = true) : select p s = s := by
  rw [select_of_free up free, makeSelection, choose_of_queue_nil hq, firstLocal_nothing hl]

/-- R12 to R14: the response placed earliest is sent and its slot is free again. -/
theorem select_response {before after : List Response} {r : Response} (hs : s.responses = before ++ r :: after)
    (hb : ∀ b ∈ before, b.port ≠ p) (hr : r.port = p) (h : (s.port p).queue = [] ∨ (s.port p).consecutive = 4) :
    select p s = ({ s with responses := before ++ after }).setPort p (sendLocal r.frame (s.port p)) := by
  have erased : s.responses.eraseP (fun x => x.port == p) = before ++ after := by rw [hs, eraseP_response hb hr]
  rw [select_of_free up free, makeSelection, choose_local h (localEmpty_of_response hs hr), firstLocal_response hs hb hr]
  dsimp only
  rw [erased]
  cases p <;> rfl

/-- R12, R144: without a response at the port the waiting report is sent, and its unit moves on. -/
theorem select_report {node : Byte} (hs : ∀ r ∈ s.responses, r.port ≠ p) (hw : reportWaiting p s = some node)
    (h : (s.port p).queue = [] ∨ (s.port p).consecutive = 4) :
    select p s = (reportSelected s).setPort p (sendLocal (reportFrame node s) (s.port p)) := by
  rw [select_of_free up free, makeSelection, choose_local h (localEmpty_of_report hw), firstLocal_report hs hw]
  exact reportSelected_setPort p _ s

/-- R13, R14: the head of the transit queue is sent. -/
theorem select_transit {head : List Byte} {rest : List (List Byte)} (hq : (s.port p).queue = head :: rest)
    (h : localEmpty p s = true ∨ (s.port p).consecutive ≠ 4) :
    select p s = s.setPort p (sendTransit head rest (localEmpty p s) (s.port p)) := by
  have passes : ¬(localEmpty p s = false ∧ (s.port p).consecutive = 4) := by
    rintro ⟨hl, full⟩
    simp [hl, full] at h
  rw [select_of_free up free, makeSelection, choose_of_queue_cons hq, if_neg passes]
  cases p <;> rfl

end Selection

/-! ### END_OF_TRANSMISSION (R13, R15) -/

/-- R15: the transmitter of the port is IDLE. -/
def transmitted (p : Port) (s : State) : State := s.setPort p { s.port p with sending := none }

theorem exec_endOfTransmission_idle {p : Port} {s : State} (h : (s.port p).sending = none) :
    exec (.endOfTransmission p) s = .next s := by
  change Host.Outcome.next _ = _
  rw [h]
  rfl

theorem exec_endOfTransmission {p : Port} {s : State} (h : (s.port p).sending ≠ none) :
    exec (.endOfTransmission p) s = .next (select p (transmitted p s)) := by
  change Host.Outcome.next _ = _
  rw [if_pos (Option.isSome_iff_ne_none.2 h)]
  rfl

@[simp] theorem transmitted_port (p : Port) (s : State) :
    (transmitted p s).port p = { s.port p with sending := none } := State.setPort_port_same p _ s

@[simp] theorem transmitted_responses (p : Port) (s : State) : (transmitted p s).responses = s.responses :=
  State.setPort_responses p _ s

@[simp] theorem localEmpty_transmitted (p : Port) (s : State) : localEmpty p (transmitted p s) = localEmpty p s :=
  localEmpty_setPort p p _ s

theorem reportFrame_setPort (node : Byte) (p : Port) (q : PortState) (s : State) :
    reportFrame node (s.setPort p q) = reportFrame node s := by cases p <;> rfl

section Ends

variable {p : Port} {s : State} (busy : (s.port p).sending ≠ none) (up : (s.port p).up = true)

include busy up

/-- R15: the end of a transmission with nothing waiting. -/
theorem endOfTransmission_nothing (hq : (s.port p).queue = []) (hl : localEmpty p s = true) :
    exec (.endOfTransmission p) s = .next (s.setPort p { s.port p with sending := none }) := by
  rw [exec_endOfTransmission busy, select_nothing (by simpa using up) (by simp) (by simpa using hq) (by simpa using hl)]
  rfl

/-- R12, R14, R15: the end of a transmission at which the first response is selected. -/
theorem endOfTransmission_response {before after : List Response} {r : Response}
    (hs : s.responses = before ++ r :: after) (hb : ∀ b ∈ before, b.port ≠ p) (hr : r.port = p)
    (h : (s.port p).queue = [] ∨ (s.port p).consecutive = 4) :
    exec (.endOfTransmission p) s =
      .next (({ s with responses := before ++ after }).setPort p (sendLocal r.frame (s.port p))) := by
  rw [exec_endOfTransmission busy,
    select_response (by simpa using up) (by simp) (by simpa using hs) hb hr (by simpa using h)]
  cases p <;> rfl

/-- R12, R144: the end of a transmission at which the report is selected. -/
theorem endOfTransmission_report {node : Byte} (hs : ∀ r ∈ s.responses, r.port ≠ p)
    (hw : s.report.phase = .queued) (ht : s.collector.target = some (node, p))
    (h : (s.port p).queue = [] ∨ (s.port p).consecutive = 4) :
    exec (.endOfTransmission p) s =
      .next ((reportSelected s).setPort p (sendLocal (reportFrame node s) (s.port p))) := by
  have waits : reportWaiting p (transmitted p s) = some node := by
    rw [transmitted, reportWaiting_setPort, reportWaiting_eq_some]
    exact ⟨hw, ht⟩
  rw [exec_endOfTransmission busy,
    select_report (by simpa using up) (by simp) (by simpa using hs) waits (by simpa using h), transmitted,
    reportSelected_setPort, reportFrame_setPort, State.setPort_setPort, State.setPort_port_same]
  rfl

/-- R14, R15: the end of a transmission at which the head of the transit queue is selected. -/
theorem endOfTransmission_transit {head : List Byte} {rest : List (List Byte)}
    (hq : (s.port p).queue = head :: rest) (h : localEmpty p s = true ∨ (s.port p).consecutive ≠ 4) :
    exec (.endOfTransmission p) s = .next (s.setPort p (sendTransit head rest (localEmpty p s) (s.port p))) := by
  rw [exec_endOfTransmission busy,
    select_transit (by simpa using up) (by simp) (by simpa using hq) (by simpa using h), transmitted]
  simp only [State.setPort_setPort, State.setPort_port_same, localEmpty_setPort]
  rfl

end Ends

/-- Settles O11: each clause is one choice of the arbiter at the transmitter that has become IDLE. -/
theorem arbiterSelectsTheNextFrame : Obligations.ArbiterSelectsTheNextFrame := by
  refine ⟨fun p s => ⟨exec_endOfTransmission_idle, fun busy up => ⟨?nothing, ?response, ?report, ?transit⟩⟩, ?noAck⟩
  case nothing => exact endOfTransmission_nothing busy up
  case response =>
    intro before after r hs hb hr h
    exact endOfTransmission_response busy up hs hb hr h
  case report =>
    intro node hs hw ht ack h
    rw [endOfTransmission_report busy up hs hw ht h, reportSelected_ack ack]
    rfl
  case transit =>
    intro head rest hq h
    exact endOfTransmission_transit busy up hq h
  case noAck =>
    intro p node s up busy hw ht noAck hs h
    rw [endOfTransmission_report busy up hs hw ht h, reportSelected_noAck noAck]
    rfl

/-! ### How long the first response waits (section 1.6) -/

theorem afterEnds_succ {p : Port} {s t : State} (h : exec (.endOfTransmission p) s = .next t) (n : Nat) :
    afterEnds p (n + 1) s = afterEnds p n t := by
  simp only [afterEnds, h]

/-- Section 1.6: by induction on what the count leaves: a transit frame selected before the response raises the
count, and at the count 4 the response is selected. -/
theorem response_within {p : Port} {before after : List Response} {r : Response} (hb : ∀ b ∈ before, b.port ≠ p)
    (hr : r.port = p) (m : Nat) : ∀ s : State, (s.port p).up = true → (s.port p).sending ≠ none →
      (s.port p).consecutive + m = 4 → s.responses = before ++ r :: after →
      ∃ n, 1 ≤ n ∧ n ≤ m + 1 ∧ ((afterEnds p n s).port p).sending = some r.frame ∧
        (afterEnds p n s).responses = before ++ after := by
  have served (s : State) (up : (s.port p).up = true) (busy : (s.port p).sending ≠ none)
      (hs : s.responses = before ++ r :: after) (h : (s.port p).queue = [] ∨ (s.port p).consecutive = 4) :
      ((afterEnds p 1 s).port p).sending = some r.frame ∧ (afterEnds p 1 s).responses = before ++ after := by
    rw [afterEnds_succ (endOfTransmission_response busy up hs hb hr h), afterEnds, State.setPort_port_same,
      State.setPort_responses]
    exact ⟨rfl, rfl⟩
  induction m with
  | zero =>
    intro s up busy count hs
    exact ⟨1, le_refl 1, le_refl 1, served s up busy hs (.inr count)⟩
  | succ m ih =>
    intro s up busy count hs
    cases hq : (s.port p).queue with
    | nil => exact ⟨1, le_refl 1, by omega, served s up busy hs (.inl hq)⟩
    | cons head rest =>
      have passes : (s.port p).consecutive ≠ 4 := by omega
      have raised : (sendTransit head rest (localEmpty p s) (s.port p)).consecutive = (s.port p).consecutive + 1 := by
        simp [sendTransit, localEmpty_of_response hs hr]
      have next := endOfTransmission_transit busy up hq (.inr passes)
      obtain ⟨n, least, most, sent⟩ := ih (s.setPort p (sendTransit head rest (localEmpty p s) (s.port p)))
        (by rw [State.setPort_port_same]; exact up) (by simp [sendTransit])
        (by rw [State.setPort_port_same, raised]; omega) (by simpa using hs)
      exact ⟨n + 1, by omega, by omega, by rwa [afterEnds_succ next]⟩

/-- Settles O12: the count leaves at most `4 - count` transit frames before the response. -/
theorem responsesLeaveWithinFiveTransmissions : Obligations.ResponsesLeaveWithinFiveTransmissions := by
  intro p s before after r up busy count hs hb hr
  obtain ⟨n, least, most, sent⟩ := response_within hb hr (4 - (s.port p).consecutive) s up busy (by omega) hs
  exact ⟨n, least, by omega, sent⟩

end Sys2Proof.Machine
end

section
/-! SUPPORT. The laws of the ports (R8 to R10, R13, R14, R161): each port's own laws, as a relation between the port and
its local group, kept by every operation on a port; with the statement that every step keeps them. -/

namespace Sys2Proof.Machine

open Sys2Proof.Safety

/-! ### The laws of one port -/

/-- R9, R10, R13 to R15, R161: the laws of a port whose local group is empty or not, but for R13's law that nothing
waits at an IDLE transmitter. -/
structure PortKept (q : PortState) (alone : Bool) : Prop where
  queue : q.queue.length ≤ Config.transitDepth
  count : q.consecutive ≤ Config.fairness
  single : alone = true → q.consecutive = 0
  down : q.up = false → q.receiving = false ∧ q.queue = [] ∧ q.sending = none ∧ alone = true

/-- R13, R15: at an UP port whose transmitter is IDLE nothing waits. -/
def Served (q : PortState) (alone : Bool) : Prop := q.up = true → q.sending = none → q.queue = [] ∧ alone = true

/-- All laws of a port. -/
def PortLaws (q : PortState) (alone : Bool) : Prop := PortKept q alone ∧ Served q alone

theorem portsSound_iff (s : State) :
    portsSound s ↔ (∀ p, PortLaws (s.port p) (localEmpty p s)) ∧ heldDown s := by
  refine and_congr_left' ⟨fun h p => ?_, fun h p _ => ?_⟩
  · obtain ⟨⟨queue, count, alone⟩, down, served⟩ := h p (by cases p <;> simp)
    exact ⟨⟨queue, count, alone, down⟩, served⟩
  · obtain ⟨⟨queue, count, alone, down⟩, served⟩ := h p
    exact ⟨⟨queue, count, alone⟩, down, served⟩

/-- R12: the laws of the ports depend on the ports, the RESET line, the response slots and the report unit. -/
theorem portsSound_congr {s t : State} (h : portsSound s) (ports : ∀ p, t.port p = s.port p)
    (held : t.resetHeld = s.resetHeld) (alone : ∀ p, localEmpty p t = localEmpty p s) : portsSound t := by
  rw [portsSound_iff] at *
  refine ⟨fun p => by rw [ports, alone]; exact h.1 p, fun isHeld => ?_⟩
  have a := ports .a
  have b := ports .b
  rw [show t.portA = s.portA from a, show t.portB = s.portB from b]
  exact h.2 (held ▸ isHeld)

theorem heldDown_iff (s : State) : heldDown s ↔ (s.resetHeld = true → ∀ p, (s.port p).up = false) :=
  ⟨fun h held p => by cases p; exacts [(h held).1, (h held).2], fun h held => ⟨h held .a, h held .b⟩⟩

/-- Table work is nothing to the ports. -/
theorem portsSound_tables {s t : State} (h : portsSound s) (work : TableWork s t) : portsSound t :=
  portsSound_congr h work.port_eq work.resetHeld_eq
    (localEmpty_congr work.responses_eq work.report_eq work.collector_eq)

/-- A change at one port that touches no link and not the other's local group. -/
theorem portsSound_at {p : Port} {s t : State} (h : portsSound s) (here : PortLaws (t.port p) (localEmpty p t))
    (link : (t.port p).up = (s.port p).up) (there : t.port p.other = s.port p.other)
    (held : t.resetHeld = s.resetHeld) (alone : localEmpty p.other t = localEmpty p.other s) : portsSound t := by
  rw [portsSound_iff, heldDown_iff] at *
  refine ⟨fun p' => ?_, fun isHeld p' => ?_⟩ <;> by_cases e : p' = p
  · exact e ▸ here
  · rw [Port.eq_other e, there, alone]
    exact h.1 p.other
  · rw [e, link]
    exact h.2 (held ▸ isHeld) p
  · rw [Port.eq_other e, there]
    exact h.2 (held ▸ isHeld) p.other

/-! ### A selection -/

theorem PortKept.sendLocal {q : PortState} {alone : Bool} (h : PortKept q alone) (up : q.up = true) (frame : List Byte)
    (alone' : Bool) : PortLaws (sendLocal frame q) alone' :=
  ⟨⟨h.queue, Nat.zero_le _, fun _ => rfl, fun down => by simp [Machine.sendLocal, up] at down⟩, nofun⟩

theorem PortKept.sendTransit {q : PortState} {alone : Bool} {head : List Byte} {rest : List (List Byte)}
    (h : PortKept q alone) (up : q.up = true) (hq : q.queue = head :: rest)
    (passes : alone = true ∨ q.consecutive ≠ 4) : PortLaws (sendTransit head rest alone q) alone := by
  have shorter : rest.length + 1 ≤ Config.transitDepth := by simpa [hq] using h.queue
  have count := h.count
  refine ⟨⟨by simpa [Machine.sendTransit] using by omega, ?_, fun e => by simp [Machine.sendTransit, e],
    fun down => by simp [Machine.sendTransit, up] at down⟩, nofun⟩
  cases alone with
  | true => exact Nat.zero_le _
  | false =>
    have below : q.consecutive ≠ 4 := by simpa using passes
    simp only [Config.fairness] at count
    change q.consecutive + 1 ≤ 4
    omega

/-- R12: a local group is empty, or its first frame is a response, or it is the report. -/
theorem local_cases (p : Port) (s : State) :
    localEmpty p s = true ∨
      (∃ before r after, s.responses = before ++ r :: after ∧ (∀ b ∈ before, b.port ≠ p) ∧ r.port = p) ∨
      ((∀ r ∈ s.responses, r.port ≠ p) ∧ ∃ node, reportWaiting p s = some node) := by
  by_cases hr : ∃ r ∈ s.responses, r.port = p
  · obtain ⟨r, hmem, hr⟩ := hr
    obtain ⟨r', before, after, none, first, split⟩ :=
      List.exists_of_eraseP (p := fun x => x.port == p) hmem (by simpa using hr)
    exact .inr (.inl ⟨before, r', after, split.1, fun b hb => by simpa using none b hb, by simpa using first⟩)
  · have none : ∀ r ∈ s.responses, r.port ≠ p := fun r hmem e => hr ⟨r, hmem, e⟩
    cases hw : reportWaiting p s with
    | none => exact .inl ((localEmpty_iff p s).2 ⟨none, hw⟩)
    | some node => exact .inr (.inr ⟨none, node, rfl⟩)

/-- R12: the other port's local group does not see a response of this port go. -/
theorem localEmpty_other_response {p : Port} {s : State} {before after : List Response} {r : Response}
    (hs : s.responses = before ++ r :: after) (hr : r.port = p) :
    localEmpty p.other { s with responses := before ++ after } = localEmpty p.other s := by
  have e : reportWaiting p.other { s with responses := before ++ after } = reportWaiting p.other s :=
    reportWaiting_congr rfl rfl _
  have elsewhere : (p == p.other) = false := by simp
  simp [localEmpty, e, hs, hr, elsewhere]

/-- R12: a report that waits at this port waits at no other. -/
theorem reportWaiting_other {p : Port} {s : State} (ht : s.collector.target.map Prod.snd = some p) :
    reportWaiting p.other s = none := by
  cases h : reportWaiting p.other s with
  | none => rfl
  | some node =>
    rw [reportWaiting_eq_some] at h
    simp [h.2] at ht

theorem reportSelected_phase (s : State) : (reportSelected s).report.phase ≠ .queued := by
  cases mode : s.collector.ackMode with
  | ack => simp [reportSelected_ack mode]
  | noAck =>
    rw [reportSelected_noAck mode]
    dsimp only
    split <;> simp

/-- R12: only a QUEUED report waits. -/
theorem reportWaiting_of_phase {s : State} (h : s.report.phase ≠ .queued) (p : Port) : reportWaiting p s = none := by
  cases e : reportWaiting p s with
  | none => rfl
  | some node => exact absurd (reportWaiting_eq_some.1 e).1 h

theorem localEmpty_of_noReport {p : Port} {s t : State} (h : t.responses = s.responses)
    (hs : reportWaiting p s = none) (ht : reportWaiting p t = none) : localEmpty p t = localEmpty p s := by
  simp [localEmpty, h, hs, ht]

/-- R13 to R15: a selection restores the laws of its port, and keeps the other's. -/
theorem portsSound_select {p : Port} {s : State} (up : (s.port p).up = true)
    (here : PortKept (s.port p) (localEmpty p s)) (there : PortLaws (s.port p.other) (localEmpty p.other s))
    (held : s.resetHeld = false) : portsSound (select p s) := by
  have sound {t : State} (h : t.resetHeld = s.resetHeld) (laws : PortLaws (t.port p) (localEmpty p t))
      (other : t.port p.other = s.port p.other) (alone : localEmpty p.other t = localEmpty p.other s) :
      portsSound t := by
    refine (portsSound_iff t).2 ⟨fun p' => ?_, fun isHeld => by simp [h, held] at isHeld⟩
    by_cases e : p' = p
    · exact e ▸ laws
    · rw [Port.eq_other e, other, alone]
      exact there
  by_cases free : (s.port p).sending = none
  swap
  · rw [select_of_sending free]
    exact sound rfl ⟨here, fun _ e => absurd e free⟩ rfl rfl
  have served (now : (s.port p).queue = [] ∨ (s.port p).consecutive = 4) (hl : localEmpty p s = false) :
      portsSound (select p s) := by
    obtain alone | ⟨before, r, after, hs, hb, hr⟩ | ⟨hs, node, hw⟩ := local_cases p s
    · simp [alone] at hl
    · rw [select_response up free hs hb hr now]
      refine sound (by simp) ?_ (by rw [State.setPort_port_other]; cases p <;> rfl) ?_
      · rw [State.setPort_port_same]
        exact here.sendLocal up ..
      · rw [localEmpty_setPort, localEmpty_other_response hs hr]
    · rw [select_report up free hs hw now]
      have other : (reportSelected s).port p.other = s.port p.other := by rw [reportSelected_eq]; cases p <;> rfl
      have target := (reportWaiting_eq_some.1 hw).2
      refine sound (by rw [State.setPort_resetHeld, reportSelected_eq]) ?_ (by rw [State.setPort_port_other, other]) ?_
      · rw [State.setPort_port_same]
        exact here.sendLocal up ..
      · rw [localEmpty_setPort]
        exact localEmpty_of_noReport (by rw [reportSelected_eq]) (reportWaiting_other (by simp [target]))
          (reportWaiting_of_phase (reportSelected_phase s) _)
  cases hq : (s.port p).queue with
  | nil =>
    cases hl : localEmpty p s with
    | true =>
      rw [select_nothing up free hq hl]
      exact sound rfl ⟨here, fun _ _ => ⟨hq, hl⟩⟩ rfl rfl
    | false => exact served (.inl hq) hl
  | cons head rest =>
    by_cases full : localEmpty p s = false ∧ (s.port p).consecutive = 4
    · exact served (.inr full.2) full.1
    · have passes : localEmpty p s = true ∨ (s.port p).consecutive ≠ 4 := by
        rw [not_and_or] at full
        simpa using full
      rw [select_transit up free hq passes]
      refine sound (by simp) ?_ (by simp) (by simp)
      rw [State.setPort_port_same, localEmpty_setPort]
      exact here.sendTransit up hq passes

/-- R8: a port that is UP is not held in reset. -/
theorem resetHeld_of_up {p : Port} {s : State} (h : heldDown s) (up : (s.port p).up = true) : s.resetHeld = false := by
  rw [heldDown_iff] at h
  by_contra held
  rw [Bool.not_eq_false] at held
  simp [h held p] at up

end Sys2Proof.Machine
end

section
/-! SUPPORT. Every happening keeps the laws of the ports: one lemma for each operation that touches a port, a response slot
or the report unit's phase; with the statement. -/

namespace Sys2Proof.Machine

open Sys2Proof.Safety

/-! ### Changes that the laws do not see -/

/-- The laws of a port look at its link, its queue, its transmitter and its count, and at its reception while DOWN. -/
theorem PortLaws.congr {q q' : PortState} {alone : Bool} (h : PortLaws q alone) (up : q'.up = q.up)
    (queue : q'.queue = q.queue) (sending : q'.sending = q.sending) (count : q'.consecutive = q.consecutive)
    (receiving : q.up = false → q'.receiving = q.receiving) : PortLaws q' alone := by
  obtain ⟨⟨h1, h2, h3, h4⟩, served⟩ := h
  refine ⟨⟨queue ▸ h1, count ▸ h2, fun e => count ▸ h3 e, fun down => ?_⟩, fun isUp free => ?_⟩
  · have isDown := up ▸ down
    rw [receiving isDown, queue, sending]
    exact h4 isDown
  · rw [queue]
    exact served (up ▸ isUp) (sending ▸ free)

/-- A change at one port that its laws do not see. -/
theorem portsSound_modify {p : Port} {f : PortState → PortState} {s : State} (h : portsSound s)
    (here : PortLaws (f (s.port p)) (localEmpty p s)) (link : (f (s.port p)).up = (s.port p).up) :
    portsSound (s.modifyPort p f) := by
  have alone (p' : Port) : localEmpty p' (s.modifyPort p f) = localEmpty p' s := localEmpty_setPort p' p _ s
  refine portsSound_at (p := p) h ?_ ?_ (by simp) (by simp) (alone _)
  · rw [State.modifyPort_port_same, alone]
    exact here
  · rw [State.modifyPort_port_same, link]

theorem portsSound_laws {s : State} (h : portsSound s) (p : Port) : PortLaws (s.port p) (localEmpty p s) :=
  ((portsSound_iff s).1 h).1 p

theorem portsSound_count (p : Port) (k : PortCounter) (n : Nat) {s : State} (h : portsSound s) :
    portsSound (s.count p k n) :=
  portsSound_modify h ((portsSound_laws h p).congr rfl rfl rfl rfl (fun _ => rfl)) rfl

/-- A report that waits neither before nor after leaves the local groups as they were. -/
theorem portsSound_noReport {s t : State} (h : portsSound s) (ports : ∀ p, t.port p = s.port p)
    (held : t.resetHeld = s.resetHeld) (responses : t.responses = s.responses) (hs : s.report.phase ≠ .queued)
    (ht : t.report.phase ≠ .queued) : portsSound t :=
  portsSound_congr h ports held (fun p =>
    localEmpty_of_noReport responses (reportWaiting_of_phase hs p) (reportWaiting_of_phase ht p))

/-- The report unit's counts and timers do not show at a port. -/
theorem portsSound_report {s t : State} (h : portsSound s) (ports : ∀ p, t.port p = s.port p)
    (held : t.resetHeld = s.resetHeld) (responses : t.responses = s.responses)
    (phase : t.report.phase = s.report.phase) (collector : t.collector = s.collector) : portsSound t :=
  portsSound_congr h ports held (fun p => by simp [localEmpty, reportWaiting, responses, phase, collector])

/-! ### Resets and links (R8, R9, R11) -/

theorem portsSound_reset (held : Bool) (cause : ResetCause) (s : State) : portsSound (resetState held cause s) := by
  refine (portsSound_iff _).2 ⟨fun p => ?_, fun _ => ⟨rfl, rfl⟩⟩
  cases p <;> exact ⟨⟨Nat.zero_le _, Nat.zero_le _, fun _ => rfl, fun _ => ⟨rfl, rfl, rfl, rfl⟩⟩, nofun⟩

theorem portsSound_rise {p : Port} {s : State} (h : portsSound s) (held : s.resetHeld = false)
    (down : (s.port p).up = false) : portsSound (s.modifyPort p raiseLink) := by
  obtain ⟨laws, -⟩ := (portsSound_iff s).1 h
  obtain ⟨-, -, -, alone⟩ := (laws p).1.down down
  refine (portsSound_iff _).2 ⟨fun p' => ?_, fun isHeld => by simp [held] at isHeld⟩
  have same : localEmpty p' (s.modifyPort p raiseLink) = localEmpty p' s := localEmpty_setPort p' p _ s
  by_cases e : p' = p
  · subst e
    rw [State.modifyPort_port_same, same, alone]
    exact ⟨⟨Nat.zero_le _, Nat.zero_le _, fun _ => rfl, nofun⟩, fun _ _ => ⟨rfl, rfl⟩⟩
  · rw [Port.eq_other e] at same ⊢
    rw [State.modifyPort_port_other, same]
    exact laws p.other

section LinkDown

variable (p : Port) (s : State)

/-- R9 step 5: the withdrawal of a waiting report is its abandonment, and changes the event queue, the lost count and
the report unit alone. -/
theorem withdrawReport_eq :
    withdrawReport p s =
      { s with
        events := (withdrawReport p s).events, lostCount := (withdrawReport p s).lostCount
        report := (withdrawReport p s).report } := by
  unfold withdrawReport
  split <;> rfl

theorem reportWaiting_withdrawReport : reportWaiting p (withdrawReport p s) = none := by
  cases e : reportWaiting p s with
  | none => rw [withdrawReport, e]; exact e
  | some node =>
    rw [withdrawReport, e]
    exact reportWaiting_of_phase (by simp [abandonReport, closeReport]) p

theorem reportWaiting_withdrawReport_other : reportWaiting p.other (withdrawReport p s) = reportWaiting p.other s := by
  cases e : reportWaiting p s with
  | none => rw [withdrawReport, e]
  | some node =>
    have target := (reportWaiting_eq_some.1 e).2
    rw [withdrawReport, e, reportWaiting_other (s := s) (by simp [target])]
    exact reportWaiting_of_phase (s := abandonReport s) (by simp [abandonReport, closeReport]) _

theorem takeLinkDown_port : (takeLinkDown p s).port p = dropLink (s.port p) := by
  rw [takeLinkDown, withdrawReport_eq]
  exact State.modifyPort_port_same p dropLink s

theorem takeLinkDown_port_other : (takeLinkDown p s).port p.other = s.port p.other := by
  rw [takeLinkDown, withdrawReport_eq]
  exact State.modifyPort_port_other p dropLink s

/-- R9 step 4: the response slots bound to the port are free. -/
theorem takeLinkDown_responses : (takeLinkDown p s).responses = s.responses.filter (fun r => r.port != p) := by
  rw [takeLinkDown, withdrawReport_eq]
  simp [freeResponses]

theorem localEmpty_takeLinkDown : localEmpty p (takeLinkDown p s) = true := by
  refine (localEmpty_iff p _).2 ⟨fun r hr => ?_, reportWaiting_withdrawReport p _⟩
  rw [takeLinkDown_responses, List.mem_filter] at hr
  simpa using hr.2

theorem localEmpty_takeLinkDown_other : localEmpty p.other (takeLinkDown p s) = localEmpty p.other s := by
  have waiting : reportWaiting p.other (takeLinkDown p s) = reportWaiting p.other s :=
    (reportWaiting_withdrawReport_other p _).trans (reportWaiting_setPort p.other p _ s)
  have elsewhere (r : Response) : (r.port != p && r.port == p.other) = (r.port == p.other) := by
    cases p <;> cases r.port <;> rfl
  simp only [localEmpty, takeLinkDown_responses, waiting, List.any_filter, elsewhere]

theorem portsSound_fall {p : Port} {s : State} (h : portsSound s) : portsSound (takeLinkDown p s) := by
  obtain ⟨laws, held⟩ := (portsSound_iff s).1 h
  rw [heldDown_iff] at held
  refine (portsSound_iff _).2 ⟨fun p' => ?_, (heldDown_iff _).2 fun isHeld p' => ?_⟩ <;> by_cases e : p' = p
  · subst e
    rw [takeLinkDown_port, localEmpty_takeLinkDown]
    exact ⟨⟨Nat.zero_le _, Nat.zero_le _, fun _ => rfl, fun _ => ⟨rfl, rfl, rfl, rfl⟩⟩, nofun⟩
  · rw [Port.eq_other e, takeLinkDown_port_other, localEmpty_takeLinkDown_other]
    exact laws p.other
  · rw [e, takeLinkDown_port]
    rfl
  · have same : (takeLinkDown p s).resetHeld = s.resetHeld := by
      rw [takeLinkDown, withdrawReport_eq]
      simp [freeResponses]
    rw [Port.eq_other e, takeLinkDown_port_other]
    exact held (same ▸ isHeld) p.other

end LinkDown

/-! ### Transit frames (R7, R10) -/

theorem portsSound_forward (p : Port) (f : Frame) {s : State} (h : portsSound s) : portsSound (forward p f s) := by
  unfold forward
  split
  · exact portsSound_count p _ 1 h
  split
  · exact portsSound_count p _ 1 h
  rename_i up room
  have isUp : (s.port p.other).up = true := by simpa using up
  have kept := (portsSound_laws h p.other).1
  have alone (p' : Port) (g : PortState → PortState) : localEmpty p' (s.modifyPort p.other g) = localEmpty p' s :=
    localEmpty_setPort p' p.other _ s
  refine portsSound_select (by simpa using isUp) ?_ ?_ (by simpa using resetHeld_of_up h.2 isUp)
  · rw [State.modifyPort_port_same, alone]
    refine ⟨?_, kept.count, kept.single, fun down => by simp [isUp] at down⟩
    simp only [List.length_append, List.length_singleton]
    omega
  · rw [State.modifyPort_port_other, alone]
    exact portsSound_laws h p.other.other

theorem portsSound_transit (p : Port) (f : Frame) (d : Damage) {s : State} (h : portsSound s) :
    portsSound (handleTransit p f d s) := by
  have classified := portsSound_tables h (TableWork.classifies p f d s)
  unfold handleTransit settleFate
  repeat' split
  · exact portsSound_forward p f h
  · exact portsSound_count p _ 1 classified
  · exact portsSound_forward p f (portsSound_count p _ 1 classified)
  · exact portsSound_forward p f classified
  · exact portsSound_forward p f classified

/-! ### The report unit (R12, R144 to R149) -/

theorem endReport_phase (s : State) : (endReport s).report.phase ≠ .queued := by
  rw [endReport_eq_closeReport]
  simp only [closeReport]
  split <;> simp

/-- R144, R147, R148: the end of a report that was not waiting. -/
theorem portsSound_endReport {s : State} (h : portsSound s) (phase : s.report.phase ≠ .queued) :
    portsSound (endReport s) :=
  portsSound_noReport h (fun p => by rw [endReport_eq]; cases p <;> rfl) (by rw [endReport_eq]) (by rw [endReport_eq])
    phase (endReport_phase s)

/-- R143, R146: the report frame waits at the collector port. -/
def withReportWaiting (s : State) : State := { s with report := { s.report with phase := .queued } }

theorem offerReport_up {node : Byte} {p : Port} {s : State} (target : s.collector.target = some (node, p))
    (up : (s.port p).up = true) : offerReport s = select p (withReportWaiting s) := by
  simp only [offerReport, target, if_pos up]
  rfl

theorem offerReport_down {node : Byte} {p : Port} {s : State} (target : s.collector.target = some (node, p))
    (down : (s.port p).up = false) : offerReport s = abandonReport s := by
  simp only [offerReport, target, down]
  rfl

theorem offerReport_none {s : State} (target : s.collector.target = none) : offerReport s = s := by
  simp only [offerReport, target]

theorem reportWaiting_withReportWaiting {node : Byte} {p : Port} {s : State}
    (target : s.collector.target = some (node, p)) : reportWaiting p (withReportWaiting s) = some node :=
  reportWaiting_eq_some.2 ⟨rfl, target⟩

/-- R9, R143, R146: the offer of a report frame. -/
theorem portsSound_offerReport {s : State} (h : portsSound s) (phase : s.report.phase ≠ .queued) :
    portsSound (offerReport s) := by
  cases target : s.collector.target with
  | none => rwa [offerReport_none target]
  | some t =>
    obtain ⟨node, p⟩ := t
    cases up : (s.port p).up with
    | false =>
      rw [offerReport_down target up]
      exact portsSound_noReport h (fun p => by cases p <;> rfl) rfl rfl phase (by simp [abandonReport, closeReport])
    | true =>
      have alone : localEmpty p (withReportWaiting s) = false :=
        localEmpty_of_report (reportWaiting_withReportWaiting target)
      have elsewhere : localEmpty p.other (withReportWaiting s) = localEmpty p.other s :=
        localEmpty_of_noReport rfl (reportWaiting_of_phase phase _)
          (reportWaiting_other (s := withReportWaiting s) (by simp [withReportWaiting, target]))
      have kept := (portsSound_laws h p).1
      rw [offerReport_up target up]
      refine portsSound_select up ?_ ?_ (resetHeld_of_up (s := withReportWaiting s) h.2 up)
      · rw [alone]
        exact ⟨kept.queue, kept.count, nofun, fun down => by simp [show (s.port p).up = false from down] at up⟩
      · rw [elsewhere]
        exact portsSound_laws h p.other

theorem portsSound_reportTick {s : State} (h : portsSound s) : portsSound (reportTick s) := by
  unfold reportTick lowerTimer
  split
  swap
  · exact h
  split
  · rename_i waits
    have phase : s.report.phase ≠ .queued := fun e => by simp [e] at waits
    split
    · unfold retryRunsOut retransmit
      split
      · exact portsSound_offerReport (portsSound_report h (fun p => by cases p <;> rfl) rfl rfl rfl rfl) phase
      · exact portsSound_endReport (portsSound_report h (fun p => by cases p <;> rfl) rfl rfl rfl rfl) phase
    · exact portsSound_report h (fun p => by cases p <;> rfl) rfl rfl rfl rfl
  · rename_i pauses
    split
    · exact portsSound_noReport h (fun p => by cases p <;> rfl) rfl rfl (fun e => by simp [e] at pauses)
        (by simp [gapRunsOut, closeReport])
    · exact portsSound_report h (fun p => by cases p <;> rfl) rfl rfl rfl rfl
  all_goals exact portsSound_report h (fun p => by cases p <;> rfl) rfl rfl rfl rfl

theorem portsSound_managementTick {s : State} (h : portsSound s) : portsSound (managementTick s) := by
  unfold managementTick lowerLease leaseRunsOut
  repeat' split
  · exact portsSound_report h (fun p => by cases p <;> rfl) rfl rfl rfl rfl
  · refine portsSound_tables (portsSound_report h (fun p => ?_) ?_ ?_ ?_ ?_) (TableWork.offers_one _ _)
    · cases p <;> rw [freeLock_eq] <;> rfl
    all_goals rw [freeLock_eq]
  · exact portsSound_report h (fun p => by cases p <;> rfl) rfl rfl rfl rfl
  · exact h

/-- R12, R14, R141, R151: a waiting report is withdrawn: where it was the last local frame, the count is settled. -/
theorem portsSound_withdraw {s u : State} (h : portsSound s) (ports : ∀ p, u.port p = s.port p)
    (held : u.resetHeld = s.resetHeld) (responses : u.responses = s.responses) (collector : u.collector = s.collector)
    (phase : u.report.phase ≠ .queued) : portsSound (settleCollectorPort u) := by
  obtain ⟨laws, -⟩ := (portsSound_iff s).1 h
  have gone := reportWaiting_of_phase phase
  have emptier (p : Port) (e : localEmpty p s = true) : localEmpty p u = true := by
    rw [localEmpty_iff] at *
    exact ⟨responses ▸ e.1, gone p⟩
  have unseen (p : Port) (hs : reportWaiting p s = none) : localEmpty p u = localEmpty p s :=
    localEmpty_of_noReport responses hs (gone p)
  unfold settleCollectorPort
  split
  · rename_i node p target
    rw [collector] at target
    rw [settleCount_eq]
    have alone (p' : Port) (g : PortState → PortState) : localEmpty p' (u.modifyPort p g) = localEmpty p' u :=
      localEmpty_setPort p' p _ u
    refine portsSound_at (p := p) h ?_ (by rw [State.modifyPort_port_same, ports])
      (by rw [State.modifyPort_port_other, ports]) (by rw [State.modifyPort_resetHeld, held])
      (by rw [alone, unseen _ (reportWaiting_other (by simp [target]))])
    rw [State.modifyPort_port_same, ports, alone]
    obtain ⟨⟨queue, count, single, down⟩, served⟩ := laws p
    refine ⟨⟨queue, ?_, fun e => if_pos e, fun isDown => ?_⟩, fun isUp free => ?_⟩
    · dsimp only
      split
      · exact Nat.zero_le _
      · exact count
    · obtain ⟨receiving, nothing, idle, e⟩ := down isDown
      exact ⟨receiving, nothing, idle, emptier p e⟩
    · obtain ⟨nothing, e⟩ := served isUp free
      exact ⟨nothing, emptier p e⟩
  · rename_i target
    rw [collector] at target
    exact portsSound_congr h ports held (fun p => unseen p (by simp [reportWaiting, target]))

/-! ### Requests -/

theorem portsSound_place (x : Response) {s : State} (h : portsSound s) (up : (s.port x.port).up = true) :
    portsSound (placeResponse x s) := by
  have kept := (portsSound_laws h x.port).1
  refine portsSound_select (s := { s with responses := s.responses ++ [x] }) up ?_ ?_ (resetHeld_of_up h.2 up)
  · rw [localEmpty_of_response (before := s.responses) (after := []) (r := x) rfl rfl]
    refine ⟨kept.queue, kept.count, nofun, fun down => ?_⟩
    have isDown : (s.port x.port).up = false := down
    simp [up] at isDown
  · have same : localEmpty x.port.other { s with responses := s.responses ++ [x] } = localEmpty x.port.other s := by
      have e : reportWaiting x.port.other { s with responses := s.responses ++ [x] } = reportWaiting x.port.other s :=
        reportWaiting_congr rfl rfl _
      have elsewhere : (x.port == x.port.other) = false := by simp
      simp [localEmpty, e, elsewhere]
    rw [same]
    exact portsSound_laws h x.port.other

theorem portsSound_ack (source : Byte) (params : List Byte) {s : State} (h : portsSound s) :
    portsSound (takeAck source params s) := by
  unfold takeAck
  repeat' split
  · exact portsSound_report h (fun p => by cases p <;> rfl) rfl rfl rfl rfl
  · rename_i waits
    exact portsSound_endReport (portsSound_report h (fun p => by cases p <;> rfl) rfl rfl rfl rfl)
      (fun e => by simp [deliverPinned, waits.1] at e)
  · exact portsSound_report h (fun p => by cases p <;> rfl) rfl rfl rfl rfl

theorem startPhase_ne_queued (c : Collector) : startPhase c ≠ .queued := by
  unfold startPhase
  split <;> simp

/-- R141 step 1, R12: dropping the current report leaves none waiting. -/
theorem dropCurrent_phase (s : State) : (dropCurrent s).report.phase ≠ .queued := by
  have settled (u : State) : (settleCollectorPort u).report = u.report := by
    unfold settleCollectorPort
    split
    · rw [settleCount_eq, State.modifyPort_report]
    · rfl
  unfold dropCurrent
  split
  · simp [settled, abandonReport, closeReport]
  · simp [abandonReport, closeReport]
  all_goals simp_all

theorem portsSound_dropCurrent {s : State} (h : portsSound s) : portsSound (dropCurrent s) := by
  unfold dropCurrent
  split
  · exact portsSound_withdraw h (fun p => by cases p <;> rfl) rfl rfl rfl (by simp [abandonReport, closeReport])
  · rename_i waits
    exact portsSound_noReport h (fun p => by cases p <;> rfl) rfl rfl (by simp [waits])
      (by simp [abandonReport, closeReport])
  all_goals exact h

theorem portsSound_clearPortCounters (p : Port) {s : State} (h : portsSound s) : portsSound (clearPortCounters p s) :=
  portsSound_modify h ((portsSound_laws h p).congr rfl rfl rfl rfl (fun _ => rfl)) rfl

theorem portsSound_clearHits {s : State} (h : portsSound s) : portsSound s.clearHits := by
  have unseen : s.clearHits = { s with entries := s.clearHits.entries } := rfl
  generalize s.clearHits.entries = entries at unseen
  rw [unseen]
  exact h

theorem portsSound_restartManagement {s : State} (h : portsSound s) : portsSound (restartManagement s) :=
  portsSound_report h (fun p => by cases p <;> rfl) rfl rfl rfl rfl

theorem portsSound_perform (c : RequestCode) (source : Byte) (params : List Byte) (d : Damage) {s : State}
    (h : portsSound s) : portsSound (perform c source params d s).state := by
  have unseen {t : State} (a : t.portA = s.portA) (b : t.portB = s.portB) (held : t.resetHeld = s.resetHeld)
      (responses : t.responses = s.responses) (report : t.report = s.report) (collector : t.collector = s.collector) :
      portsSound t :=
    portsSound_report h (State.port_congr a b) held responses (by rw [report]) collector
  cases c
  case claim => rw [perform, performClaim_state_eq]; exact unseen rfl rfl rfl rfl rfl rfl
  case release => rw [perform, performRelease, freeLock_eq]; exact unseen rfl rfl rfl rfl rfl rfl
  case setAddress => rw [perform, performSetAddress_state_eq]; exact unseen rfl rfl rfl rfl rfl rfl
  case setManagers => rw [perform, performSetManagers_state_eq]; exact unseen rfl rfl rfl rfl rfl rfl
  case stageBegin => rw [perform, performStageBegin_state_eq]; exact unseen rfl rfl rfl rfl rfl rfl
  case pollEvents => rw [perform, performPollEvents_state_eq]; exact unseen rfl rfl rfl rfl rfl rfl
  case clearCounters =>
    simp only [perform, performClearCounters]
    repeat' split
    · exact h
    · rename_i c _
      rcases c with p | k | _
      · exact portsSound_clearPortCounters p h
      · exact portsSound_tables h (TableWork.slot ..)
      · exact portsSound_clearHits (portsSound_tables
          (portsSound_clearPortCounters .b (portsSound_clearPortCounters .a h)) (TableWork.slots ..))
    · exact h
  case setCollector =>
    simp only [perform, performSetCollector]
    split
    · exact h
    · exact portsSound_noReport (portsSound_dropCurrent h) (fun p => by cases p <;> rfl) rfl rfl (dropCurrent_phase s)
        (startPhase_ne_queued _)
  all_goals exact portsSound_tables h (TableWork.performs (by decide))

theorem portsSound_restartReport {s : State} (h : portsSound s) : portsSound (restartReport s) := by
  have quiet := startPhase_ne_queued s.collector
  unfold restartReport
  dsimp only
  split
  · exact portsSound_withdraw h (fun p => by cases p <;> rfl) rfl rfl rfl quiet
  all_goals
    rename_i phase
    exact portsSound_noReport h (fun p => by cases p <;> rfl) rfl rfl (by simp [phase]) quiet

/-- R126, R171: the event queue and the lost count do not show at a port. -/
theorem portsSound_noEvents {s : State} (h : portsSound s) : portsSound { s with events := [], lostCount := 0 } :=
  portsSound_report h (fun p => by cases p <;> rfl) rfl rfl rfl rfl

/-- R171 step 2, once the contexts have ended. -/
theorem portsSound_restartTail {u : State} (h : portsSound u) :
    portsSound (clearPortCounters .b (clearPortCounters .a (restartReport
      { u.modifySlots clearFlags with events := [], lostCount := 0 }))).clearHits :=
  portsSound_clearHits (portsSound_clearPortCounters .b (portsSound_clearPortCounters .a (portsSound_restartReport
    (portsSound_noEvents (portsSound_tables h (TableWork.slots clearFlags u))))))

theorem portsSound_restart {s : State} (h : portsSound s) : portsSound (restartPart s) := by
  have ended := portsSound_tables h ((WatchWork.discards s).trans (WatchWork.endsAll (fun _ => true) .restart _)).tables
  rw [restartPart, restartBlocks]
  exact portsSound_restartManagement (portsSound_restartTail ended)

theorem portsSound_request : KeptByRequests portsSound where
  overrun _ _ h := h
  place x _ h _ up := portsSound_place x h up
  cache r payload s h := by rw [updateCache_eq]; exact h
  ack source params _ h := portsSound_ack source params h
  renew source s h := by rw [renew_eq]; exact h
  perform c source params d _ h _ := portsSound_perform c source params d h
  restart _ h := portsSound_restart h

/-! ### The statement -/

theorem portsSound_transmission {p : Port} {s : State} (h : portsSound s) (busy : (s.port p).sending ≠ none) :
    portsSound (select p (transmitted p s)) := by
  have kept := (portsSound_laws h p).1
  have up : (s.port p).up = true := by
    by_contra down
    exact busy (kept.down (by simpa using down)).2.2.1
  refine portsSound_select (by simpa using up) ?_ ?_ (by simpa [transmitted] using resetHeld_of_up h.2 up)
  · rw [transmitted_port, localEmpty_transmitted]
    exact ⟨kept.queue, kept.count, kept.single, fun down => by simp [up] at down⟩
  · rw [transmitted, State.setPort_port_other, localEmpty_setPort]
    exact portsSound_laws h p.other

theorem portsSound_countTick {s : State} (h : portsSound s) : portsSound (countTick s) :=
  portsSound_report h (fun p => by cases p <;> rfl) rfl rfl rfl rfl

theorem portsSound_kept : Kept portsSound where
  pending _ _ h := h
  reset held cause s _ := portsSound_reset held cause s
  rise _ _ h held down := portsSound_rise h held down
  fall _ _ h _ := portsSound_fall h
  reception p _ _ h up := portsSound_modify h
    ((portsSound_laws h p).congr rfl rfl rfl rfl (fun down => by simp [up] at down)) rfl
  count p k n _ h := portsSound_count p k n h
  transit p f d _ h _ := portsSound_transit p f d h
  request _ d _ h admitted := portsSound_request.request d h admitted
  transmission _ _ h busy := portsSound_transmission h busy
  expiry i d s h := portsSound_tables h (TableWork.expires i d s)
  managementTick _ h := portsSound_managementTick h
  reportTick _ h := portsSound_reportTick h
  timeBase _ settled _ := portsSound_countTick settled
  assembly s h ready := by
    have idle : s.report.phase = .idle := by
      simp only [assemblyReady, Bool.and_eq_true, beq_iff_eq] at ready
      exact ready.1.1
    exact portsSound_offerReport (portsSound_report h (fun p => by cases p <;> rfl) rfl rfl rfl rfl)
      (by simp [buildReport, idle])
  drain k s h _ := portsSound_tables h ((WatchWork.drain k s).tables.trans (TableWork.offers _ _))

/-- Settles O55: the laws of the ports survive every happening. -/
theorem everyStepKeepsThePortsSound : Obligations.EveryStepKeepsThePortsSound :=
  fun _ _ h taken => portsSound_kept.step h taken

end Sys2Proof.Machine
end

section
/-! SUPPORT. Every happening keeps the laws of the management unit and of the OPEN staging buffer (R156, R159 to R162,
R164, R173); with the statement. -/

namespace Sys2Proof.Machine

open Sys2Proof.Safety

/-! ### The laws of the lock -/

/-- R164: the laws of a held lock. -/
def LeaseLaws (managers : List Byte) (l : Lease) : Prop :=
  l.holder ≠ Config.broadcast ∧ 10 ≤ l.length.toNat ∧ l.length.toNat ≤ 60000 ∧ 1 ≤ l.remaining.toNat ∧
    l.remaining ≤ l.length ∧ (managers ≠ [] → l.holder ∈ managers)

/-- R161, R162: the laws of the response slots and the reply cache. -/
def AnswerLaws (responses : List Response) (cache : List CacheEntry) : Prop :=
  responses.length ≤ Config.responseSlots ∧ cache.length ≤ Config.cacheEntries ∧
    (cache.map CacheEntry.source).Nodup

/-- R159: the laws of the manager list. -/
def ManagerLaws (managers : List Byte) : Prop :=
  managers.length ≤ Config.managerNodes ∧ managers.Nodup ∧ Config.broadcast ∉ managers

/-- The laws of the management unit, by the items that they are about. -/
theorem authoritySound_iff (s : State) :
    authoritySound s ↔
      s.ownAddress ≠ Config.broadcast ∧ ManagerLaws s.managers ∧ (∀ l ∈ s.lock, LeaseLaws s.managers l) ∧
        AnswerLaws s.responses s.cache ∧ stagingSound s := by
  simp only [ManagerLaws, LeaseLaws, AnswerLaws, authoritySound, managementSound, and_assoc]

section Laws

variable {s t : State} (h : authoritySound s)

include h

/-- The laws look at six items. -/
theorem authoritySound_congr (own : t.ownAddress = s.ownAddress) (managers : t.managers = s.managers)
    (lock : t.lock = s.lock) (answers : AnswerLaws t.responses t.cache)
    (opens : stagingOpen t = true → stagingOpen s = true) : authoritySound t := by
  rw [authoritySound_iff] at *
  obtain ⟨h1, h2, h3, -, h5⟩ := h
  exact ⟨own ▸ h1, managers ▸ h2, by rwa [lock, managers], answers, fun e => lock ▸ h5 (opens e)⟩

theorem authoritySound_answers : AnswerLaws s.responses s.cache := by
  rw [authoritySound_iff] at h
  exact h.2.2.2.1

/-- Nothing that the laws look at has changed, and no buffer has been opened. -/
theorem authoritySound_same (own : t.ownAddress = s.ownAddress) (managers : t.managers = s.managers)
    (lock : t.lock = s.lock) (responses : t.responses = s.responses) (cache : t.cache = s.cache)
    (opens : stagingOpen t = true → stagingOpen s = true) : authoritySound t :=
  authoritySound_congr h own managers lock (by rw [responses, cache]; exact authoritySound_answers h) opens

theorem authoritySound_tables (work : TableWork s t) : authoritySound t :=
  authoritySound_same h work.ownAddress_eq work.managers_eq work.lock_eq work.responses_eq work.cache_eq work.2

/-- R161: response slots that have been freed. -/
theorem authoritySound_responses (own : t.ownAddress = s.ownAddress) (managers : t.managers = s.managers)
    (lock : t.lock = s.lock) (responses : t.responses.length ≤ s.responses.length) (cache : t.cache = s.cache)
    (staging : t.staging = s.staging) : authoritySound t := by
  obtain ⟨slots, rest⟩ := authoritySound_answers h
  refine authoritySound_congr h own managers lock ⟨responses.trans slots, ?_⟩
    (by rw [TableWork.stagingOpen_congr staging]; exact id)
  rwa [cache]

end Laws

/-! ### Ports and reports leave the management unit alone -/

section Elsewhere

variable {s : State} (h : authoritySound s)

include h

theorem authoritySound_setPort (p : Port) (q : PortState) : authoritySound (s.setPort p q) := by
  cases p <;> exact authoritySound_same h rfl rfl rfl rfl rfl id

theorem authoritySound_report (events : List Event) (lost : BitVec 8) (report : ReportUnit) :
    authoritySound { s with events := events, lostCount := lost, report := report } :=
  authoritySound_same h rfl rfl rfl rfl rfl id

/-- R12 to R15: a selection can free a response slot. -/
theorem authoritySound_select (p : Port) : authoritySound (select p s) := by
  have fewer : (select p s).responses.length ≤ s.responses.length := by
    unfold select makeSelection
    split
    swap
    · exact le_refl _
    split
    · rw [startLocal, State.modifyPort_responses]
      exact List.length_eraseP_le
    · rw [reportSelected_eq, startLocal, State.modifyPort_responses]
    · rw [startTransit, State.modifyPort_responses]
    · exact le_refl _
  exact authoritySound_responses h (by simp) (by simp) (by simp) fewer (by simp) (by simp)

theorem authoritySound_endReport : authoritySound (endReport s) := by
  rw [endReport_eq_closeReport]
  exact authoritySound_report h _ _ _

theorem authoritySound_offerReport : authoritySound (offerReport s) := by
  unfold offerReport
  repeat' split
  · exact authoritySound_select (authoritySound_report h _ _ _) _
  · exact authoritySound_report h _ _ _
  · exact h

theorem authoritySound_settle : authoritySound (settleCollectorPort s) := by
  unfold settleCollectorPort
  split
  · rw [settleCount_eq]
    exact authoritySound_setPort h _ _
  · exact h

theorem authoritySound_forward (p : Port) (f : Frame) : authoritySound (forward p f s) := by
  unfold forward
  repeat' split
  · exact authoritySound_setPort h _ _
  · exact authoritySound_setPort h _ _
  · exact authoritySound_select (authoritySound_setPort h _ _) _

theorem authoritySound_transit (p : Port) (f : Frame) (d : Damage) : authoritySound (handleTransit p f d s) := by
  have classified := authoritySound_tables h (TableWork.classifies p f d s)
  unfold handleTransit settleFate
  repeat' split
  · exact authoritySound_forward h p f
  · exact authoritySound_setPort classified _ _
  · exact authoritySound_forward (authoritySound_setPort classified _ _) p f
  · exact authoritySound_forward classified p f
  · exact authoritySound_forward classified p f

theorem authoritySound_fall (p : Port) : authoritySound (takeLinkDown p s) := by
  have freed := authoritySound_responses (t := freeResponses p (s.modifyPort p dropLink))
    (authoritySound_setPort h p (dropLink (s.port p))) rfl rfl rfl (List.length_filter_le _ _) rfl rfl
  rw [takeLinkDown, withdrawReport_eq]
  exact authoritySound_report freed _ _ _

/-! ### Ticks (R113, R164) -/

theorem authoritySound_freeLock : authoritySound (freeLock s) := by
  rw [authoritySound_iff] at *
  obtain ⟨own, managers, -, answers, -⟩ := h
  have shut : stagingOpen (freeLock s) = false := by
    cases e : s.staging <;> simp [freeLock, discardOpen, stagingOpen, e]
  rw [freeLock_eq] at *
  refine ⟨own, managers, nofun, answers, fun opens => ?_⟩
  rw [shut] at opens
  cases opens

theorem authoritySound_managementTick : authoritySound (managementTick s) := by
  have taken : authoritySound { s with managementTickOwed := false } := authoritySound_same h rfl rfl rfl rfl rfl id
  unfold managementTick lowerLease leaseRunsOut
  repeat' split
  · exact taken
  · exact authoritySound_tables (authoritySound_freeLock taken) (TableWork.offers_one _ _)
  · rename_i l held runs
    have held' : s.lock = some l := held
    rw [authoritySound_iff] at *
    obtain ⟨own, managers, lock, answers, staging⟩ := h
    obtain ⟨h1, h2, h3, h4, h5, h6⟩ := lock l held'
    refine ⟨own, managers, fun l' e => ?_, answers, fun _ => nofun⟩
    obtain rfl := Option.some.inj e
    refine ⟨h1, h2, h3, ?_, ?_, h6⟩ <;> dsimp only <;> bv_omega
  · exact h

theorem authoritySound_reportTick : authoritySound (reportTick s) := by
  have taken : authoritySound { s with reportTickOwed := false } := authoritySound_same h rfl rfl rfl rfl rfl id
  unfold reportTick lowerTimer retryRunsOut
  repeat' split
  · exact authoritySound_offerReport (authoritySound_report taken _ _ _)
  · exact authoritySound_endReport (authoritySound_report taken _ _ _)
  · exact authoritySound_report taken _ _ _
  · exact authoritySound_report taken _ _ _
  · exact authoritySound_report taken _ _ _
  all_goals exact taken

/-! ### Answers (R161, R162) -/

theorem authoritySound_place (x : Response) (room : s.responses.length < 2) : authoritySound (placeResponse x s) := by
  obtain ⟨-, cache⟩ := authoritySound_answers h
  refine authoritySound_select (authoritySound_congr (t := { s with responses := s.responses ++ [x] }) h rfl rfl rfl
    ⟨?_, cache⟩ id) _
  simp only [List.length_append, List.length_singleton, Config.responseSlots]
  omega

/-- R162: the cache keeps one entry for each source, and 4 at most. -/
theorem authoritySound_cache (r : Request) (payload : List Byte) : authoritySound (updateCache r payload s) := by
  obtain ⟨slots, -, sources⟩ := authoritySound_answers h
  unfold updateCache
  split
  · refine authoritySound_congr h rfl rfl rfl ⟨slots, List.length_take_le _ _, ?_⟩ id
    refine List.Nodup.sublist ((List.take_sublist _ _).map CacheEntry.source) ?_
    refine List.nodup_cons.2 ⟨fun known => ?_, sources.sublist (List.filter_sublist.map CacheEntry.source)⟩
    obtain ⟨e, old, same⟩ := List.mem_map.1 known
    rw [List.mem_filter] at old
    simp [same] at old
  · exact h

theorem authoritySound_ack (source : Byte) (params : List Byte) : authoritySound (takeAck source params s) := by
  unfold takeAck
  repeat' split
  · exact authoritySound_report h _ _ _
  · exact authoritySound_endReport (authoritySound_report h _ _ _)
  · exact authoritySound_report h _ _ _

/-! ### The lock (R158 check 9, R165) -/

/-- R164, R165: a lease of full length for a node of the manager list. -/
theorem authoritySound_lease {source : Byte} {n : Word16} (node : source ≠ 255#8)
    (manager : s.managers = [] ∨ source ∈ s.managers) (least : 10 ≤ n.toNat) (most : n.toNat ≤ 60000) :
    authoritySound { s with lock := some ⟨source, n, n⟩ } := by
  rw [authoritySound_iff] at *
  obtain ⟨own, managers, -, answers, -⟩ := h
  refine ⟨own, managers, fun l e => ?_, answers, fun _ => nofun⟩
  obtain rfl := Option.some.inj e
  exact ⟨node, least, most, by dsimp only; omega, BitVec.le_refl n, manager.resolve_left⟩

theorem authoritySound_renew (source : Byte) : authoritySound (renew source s) := by
  unfold renew
  repeat' split
  · rename_i l held _
    obtain ⟨-, -, lock, -⟩ := (authoritySound_iff s).1 h
    obtain ⟨h1, h2, h3, -, -, h6⟩ := lock l held
    exact authoritySound_lease h h1 (by rwa [or_iff_not_imp_left]) h2 h3
  · exact h
  · exact h

omit h in
/-- R165: a lease length is given in its range. -/
theorem parseLease_range {hi lo : Byte} {n : Word16} (read : parseLease hi lo = some n) :
    10 ≤ n.toNat ∧ n.toNat ≤ 60000 := by
  simp only [parseLease] at read
  split at read
  · cases read; decide
  · split at read
    · cases read; assumption
    · cases read

theorem authoritySound_claimLock {source : Byte} (node : source ≠ 255#8)
    (manager : s.managers = [] ∨ source ∈ s.managers) {length : Option Word16}
    (range : ∀ n ∈ length, 10 ≤ n.toNat ∧ n.toNat ≤ 60000) : authoritySound (claimLock source length s).state := by
  have granted {n : Word16} (hn : 10 ≤ n.toNat ∧ n.toNat ≤ 60000) := authoritySound_lease h node manager hn.1 hn.2
  unfold claimLock
  repeat' split
  · cases length with
    | none => exact granted (by decide)
    | some n => exact granted (range n rfl)
  · exact granted (range _ rfl)
  · exact h
  · exact h

theorem authoritySound_claim {source : Byte} (node : source ≠ 255#8)
    (manager : s.managers = [] ∨ source ∈ s.managers) (params : List Byte) :
    authoritySound (performClaim source params s).state := by
  unfold performClaim
  repeat' split
  · exact authoritySound_claimLock h node manager nofun
  · exact h
  · rename_i n read
    refine authoritySound_claimLock h node manager (fun m e => ?_)
    obtain rfl := Option.some.inj e
    exact parseLease_range read
  · exact h

/-! ### The other requests -/

omit h in
/-- R160 step 2: the model's own test for nodes given twice. -/
theorem distinct_iff_nodup (l : List Byte) : distinct l = true ↔ l.Nodup := by
  induction l with
  | nil => simp [distinct]
  | cons a l ih => simp [distinct, ih]

/-- R160: the holder gives itself or an empty list. -/
theorem authoritySound_setManagers {source : Byte} {params : List Byte} (holds : holder s = some source)
    (few : params.length ≤ 4) : authoritySound (performSetManagers source params s).state := by
  unfold performSetManagers
  split
  · exact h
  split
  · exact h
  split
  · exact h
  rename_i node once own
  obtain ⟨l, held, holder⟩ := Option.map_eq_some_iff.1 holds
  obtain ⟨address, -, lock, answers, staging⟩ := (authoritySound_iff s).1 h
  obtain ⟨h1, h2, h3, h4, h5, -⟩ := lock l held
  refine (authoritySound_iff _).2 ⟨address, ⟨few, ?_, by simpa using node⟩, fun l' e => ?_, answers, staging⟩
  · exact (distinct_iff_nodup params).1 (by simpa using once)
  · have same : l' = l := Option.some.inj ((show s.lock = some l' from e).symm.trans held)
    subst same
    refine ⟨h1, h2, h3, h4, h5, fun some => ?_⟩
    simp only [Bool.and_eq_true, Bool.not_eq_true', not_and, Bool.not_eq_false, List.contains_iff_mem] at own
    rw [holder]
    exact own (by simpa using some)

theorem authoritySound_dropCurrent : authoritySound (dropCurrent s) := by
  unfold dropCurrent
  split
  · exact authoritySound_settle (authoritySound_report h _ _ _)
  · exact authoritySound_report h _ _ _
  all_goals exact h

theorem authoritySound_perform {c : RequestCode} {source : Byte} {params : List Byte} (d : Damage)
    (passes : Passes c source params s) : authoritySound (perform c source params d s).state := by
  cases c
  case claim => exact authoritySound_claim h passes.node passes.manager params
  case release => exact authoritySound_freeLock h
  case setAddress =>
    simp only [perform, performSetAddress]
    repeat' split
    · exact h
    · rename_i node
      obtain ⟨-, rest⟩ := (authoritySound_iff s).1 h
      exact (authoritySound_iff _).2 ⟨node, rest⟩
    · exact h
  case setManagers =>
    exact authoritySound_setManagers h (passes.lock rfl) (by simpa [acceptsLength] using passes.length)
  case stageBegin =>
    obtain ⟨l, held, -⟩ := Option.map_eq_some_iff.1 (passes.lock rfl)
    obtain ⟨address, managers, lock, answers, -⟩ := (authoritySound_iff s).1 h
    rw [perform, performStageBegin_state_eq]
    exact (authoritySound_iff _).2 ⟨address, managers, lock, answers, fun _ => by simp [held]⟩
  case pollEvents =>
    rw [perform, performPollEvents_state_eq]
    exact authoritySound_report h _ _ _
  case clearCounters =>
    simp only [perform, performClearCounters]
    repeat' split
    · exact h
    · rename_i c _
      rcases c with p | k | _
      · exact authoritySound_setPort h _ _
      · exact authoritySound_tables h (TableWork.slot ..)
      · exact authoritySound_tables (authoritySound_setPort (authoritySound_setPort h .a _) .b _)
          ((TableWork.slots ..).trans (TableWork.clearsHits _))
    · exact h
  case setCollector =>
    simp only [perform, performSetCollector]
    split
    · exact h
    · exact authoritySound_same (authoritySound_dropCurrent h) rfl rfl rfl rfl rfl id
  all_goals exact authoritySound_tables h (TableWork.performs (by decide))

omit h in
theorem restartReport_staging (s : State) : (restartReport s).staging = s.staging := by
  have settled (u : State) : (settleCollectorPort u).staging = u.staging := by
    unfold settleCollectorPort
    split
    · rw [settleCount_eq, State.modifyPort_staging]
    · rfl
  unfold restartReport
  dsimp only
  split
  · exact settled _
  all_goals rfl

theorem authoritySound_restartReport : authoritySound (restartReport s) := by
  unfold restartReport
  dsimp only
  split
  · exact authoritySound_settle (authoritySound_report h _ _ _)
  all_goals exact authoritySound_report h _ _ _

theorem authoritySound_restartManagement (shut : stagingOpen s = false) : authoritySound (restartManagement s) := by
  rw [authoritySound_iff] at *
  obtain ⟨own, managers, -, ⟨slots, -⟩, -⟩ := h
  refine ⟨own, managers, nofun, ⟨slots, by simp [restartManagement], by simp [restartManagement]⟩, fun opens => ?_⟩
  rw [show stagingOpen (restartManagement s) = stagingOpen s from rfl, shut] at opens
  cases opens

/-- R171 step 2, once the contexts have ended and the buffer is empty. -/
theorem authoritySound_restartTail (shut : stagingOpen s = false) :
    authoritySound (restartManagement (clearPortCounters .b (clearPortCounters .a (restartReport
      { s.modifySlots clearFlags with events := [], lostCount := 0 }))).clearHits) := by
  have cleared := authoritySound_report (authoritySound_tables h (TableWork.slots clearFlags s)) [] 0 s.report
  refine authoritySound_restartManagement (authoritySound_tables (authoritySound_setPort (authoritySound_setPort
    (authoritySound_restartReport cleared) .a _) .b _) (TableWork.clearsHits _)) ?_
  refine Bool.eq_false_iff.2 (fun opens => absurd ((TableWork.clearsHits _).2 opens) ?_)
  rw [TableWork.stagingOpen_congr (s := s), shut]
  · nofun
  · simp [clearPortCounters, restartReport_staging]

omit h in
/-- R173: a discard leaves the buffer EMPTY. -/
theorem discardStaging_staging (s : State) : (discardStaging s).staging = .empty := by
  unfold discardStaging
  split
  · rfl
  · rfl
  · assumption

theorem authoritySound_restart : authoritySound (restartPart s) := by
  have shut : stagingOpen (discardStaging s) = false := TableWork.stagingOpen_of_empty (discardStaging_staging s)
  have ends := (WatchWork.endsAll (fun _ => true) .restart (discardStaging s)).tables
  rw [restartPart, restartBlocks]
  refine authoritySound_restartTail (authoritySound_tables h ((WatchWork.discards s).tables.trans ends)) ?_
  by_contra opens
  exact absurd (ends.2 (by simpa using opens)) (by simp [shut])

end Elsewhere

/-! ### The statement -/

theorem authoritySound_reset (held : Bool) (cause : ResetCause) (s : State) : authoritySound (resetState held cause s) := by
  have own : (resetState held cause s).ownAddress = Config.initialAddress := rfl
  have managers : (resetState held cause s).managers = [] := rfl
  have responses : (resetState held cause s).responses = [] := rfl
  have cache : (resetState held cause s).cache = [] := rfl
  rw [authoritySound_iff, own, managers, responses, cache]
  exact ⟨by decide, ⟨by decide, by decide, by decide⟩, nofun, ⟨by decide, by decide, by decide⟩, nofun⟩

theorem authoritySound_countTick {s : State} (h : authoritySound s) : authoritySound (countTick s) :=
  authoritySound_same h rfl rfl rfl rfl rfl id

theorem authoritySound_request : KeptByRequests authoritySound where
  overrun _ _ h := authoritySound_same h rfl rfl rfl rfl rfl id
  place x _ h room _ := authoritySound_place h x room
  cache r payload _ h := authoritySound_cache h r payload
  ack source params _ h := authoritySound_ack h source params
  renew source _ h := authoritySound_renew h source
  perform _ _ _ d _ h passes := authoritySound_perform h d passes
  restart _ h := authoritySound_restart h

theorem authoritySound_kept : Kept authoritySound where
  pending _ _ h := authoritySound_same h rfl rfl rfl rfl rfl id
  reset held cause s _ := authoritySound_reset held cause s
  rise p _ h _ _ := authoritySound_setPort h p _
  fall p _ h _ := authoritySound_fall h p
  reception p _ _ h _ := authoritySound_setPort h p _
  count p _ _ _ h := authoritySound_setPort h p _
  transit p f d _ h _ := authoritySound_transit h p f d
  request _ d _ h admitted := authoritySound_request.request d h admitted
  transmission p _ h _ := authoritySound_select (authoritySound_setPort h p _) p
  expiry i d s h := authoritySound_tables h (TableWork.expires i d s)
  managementTick _ h := authoritySound_managementTick h
  reportTick _ h := authoritySound_reportTick h
  timeBase _ settled _ := authoritySound_countTick settled
  assembly _ h _ := authoritySound_offerReport (authoritySound_report h _ _ _)
  drain k s h _ := authoritySound_tables h ((WatchWork.drain k s).tables.trans (TableWork.offers _ _))

/-- Settles O59: the laws of the management unit and of the OPEN staging buffer survive every happening. -/
theorem everyStepKeepsTheAuthoritySound : Obligations.EveryStepKeepsTheAuthoritySound :=
  fun _ _ h taken => authoritySound_kept.step h taken

end Sys2Proof.Machine
end

section
/-! SUPPORT. Every happening keeps the laws of the event queue, the report unit and its settings (R126, R127, R140,
R142); with the statement. -/

namespace Sys2Proof.Machine

open Sys2Proof.Safety

/-! ### The queue (R126 to R129) -/

/-- R126, R127: depth and distinct serials. -/
def QueueLaws (l : List Event) : Prop := l.length ≤ Config.queueDepth ∧ (l.map Event.serial).Nodup

theorem QueueLaws.sublist {l m : List Event} (h : QueueLaws m) (sub : l.Sublist m) : QueueLaws l :=
  ⟨sub.length_le.trans h.1, h.2.sublist (sub.map Event.serial)⟩

/-- Marks do not matter to the laws of the queue. -/
theorem QueueLaws.remark {l : List Event} (h : QueueLaws l) {mark : Event → Event}
    (same : ∀ e, (mark e).serial = e.serial) : QueueLaws (l.map mark) := by
  obtain ⟨depth, distinct⟩ := h
  refine ⟨by simpa using depth, ?_⟩
  rw [List.map_map, show Event.serial ∘ mark = Event.serial from funext same]
  exact distinct

theorem pinnedCount_sublist {l m : List Event} (sub : l.Sublist m) : pinnedCount l ≤ pinnedCount m :=
  (sub.filter _).length_le

theorem pinnedCount_delivered (l : List Event) : pinnedCount (l.filter (fun e => !e.pinned)) = 0 := by
  simp [pinnedCount]

theorem pinnedCount_unpinned (l : List Event) : pinnedCount (l.map (fun e => { e with pinned := false })) = 0 := by
  simp [pinnedCount, List.filter_eq_nil_iff]

theorem eraseLast_sublist {α : Type} (p : α → Bool) (l : List α) : (eraseLast p l).Sublist l := by
  have sub := (List.eraseP_sublist (p := p) (l := l.reverse)).reverse
  simpa [eraseLast] using sub

/-- R127 to R129: an offer removes events, and admits the new one or not. -/
theorem offer_events_cases (e : EventBody) (s : State) :
    ∃ l, l.Sublist (removeCollision s).events ∧
      ((offer e s).events = l ∨ (offer e s).events = l ++ [⟨s.nextSerial, e, false⟩]) := by
  have serial : (removeCollision s).nextSerial = s.nextSerial := by
    unfold removeCollision
    split <;> rfl
  simp only [offer, decideOffer]
  repeat' split
  · exact ⟨_, List.Sublist.refl _, Or.inr (by rw [← serial]; rfl)⟩
  · exact ⟨_, eraseLast_sublist _ _, Or.inr (by rw [← serial]; rfl)⟩
  · exact ⟨_, List.Sublist.refl _, Or.inl rfl⟩
  · exact ⟨_, List.Sublist.refl _, Or.inl rfl⟩

/-- R128: the serial about to be given is free. -/
theorem removeCollision_events (s : State) :
    (removeCollision s).events.Sublist s.events ∧ ∀ x ∈ (removeCollision s).events, x.serial ≠ s.nextSerial := by
  by_cases h : ∃ x ∈ s.events, x.serial = s.nextSerial
  · rw [removeCollision_of_mem h]
    exact ⟨List.filter_sublist, fun x hx => by simpa using (List.mem_filter.1 hx).2⟩
  · have free : ∀ x ∈ s.events, x.serial ≠ s.nextSerial := fun x hx e => h ⟨x, hx, e⟩
    rw [removeCollision_of_forall free]
    exact ⟨List.Sublist.refl _, free⟩

/-- R126 to R129: an offer keeps the laws of the queue, and pins nothing. -/
theorem offer_queue (e : EventBody) {s : State} (h : QueueLaws s.events) :
    QueueLaws (offer e s).events ∧ pinnedCount (offer e s).events ≤ pinnedCount s.events := by
  obtain ⟨within, free⟩ := removeCollision_events s
  obtain ⟨l, sub, same | more⟩ := offer_events_cases e s
  · rw [same]
    exact ⟨h.sublist (sub.trans within), pinnedCount_sublist (sub.trans within)⟩
  · refine ⟨⟨length_offer_le h.1, ?_⟩, ?_⟩
    · rw [more, List.map_append, List.nodup_append]
      refine ⟨(h.sublist (sub.trans within)).2, by simp, ?_⟩
      intro n hn m hm same
      obtain ⟨x, hx, rfl⟩ := List.mem_map.1 hn
      exact free x (sub.mem hx) (by simpa [same] using hm)
    · have kept := pinnedCount_sublist (sub.trans within)
      rw [more]
      simpa [pinnedCount] using kept

theorem offerAll_queue (es : List EventBody) {s : State} (h : QueueLaws s.events) :
    QueueLaws (offerAll es s).events ∧ pinnedCount (offerAll es s).events ≤ pinnedCount s.events := by
  induction es generalizing s with
  | nil => exact ⟨h, le_refl _⟩
  | cons e es ih =>
    obtain ⟨laws, pinned⟩ := offer_queue e h
    obtain ⟨laws', pinned'⟩ := ih laws
    exact ⟨laws', pinned'.trans pinned⟩

/-! ### The laws of delivery -/

theorem eventsSound_iff (s : State) :
    eventsSound s ↔
      QueueLaws s.events ∧ pinnedCount s.events ≤ Config.eventsPerReport ∧
        (reportCurrent s.report.phase = false → pinnedCount s.events = 0) := by
  simp only [eventsSound, QueueLaws, and_assoc]

section Laws

variable {s t : State} (h : deliverySound s)

include h

/-- The laws look at the queue, the report unit and its settings. -/
theorem deliverySound_congr (events : t.events = s.events) (report : t.report = s.report)
    (collector : t.collector = s.collector) : deliverySound t := by
  simpa only [deliverySound, eventsSound, reportSound, collectorSound, events, report, collector] using h

/-- Events that leave or come keep the laws while no more of them are pinned. -/
theorem deliverySound_events (laws : QueueLaws t.events) (pinned : pinnedCount t.events ≤ pinnedCount s.events)
    (report : t.report = s.report) (collector : t.collector = s.collector) : deliverySound t := by
  obtain ⟨events, unit, settings⟩ := h
  obtain ⟨-, few, none⟩ := (eventsSound_iff s).1 events
  refine ⟨(eventsSound_iff t).2 ⟨laws, pinned.trans few, fun idle => ?_⟩, ?_, ?_⟩
  · rw [report] at idle
    have := none idle
    omega
  · simpa only [reportSound, report, collector] using unit
  · simpa only [collectorSound, collector] using settings

theorem deliverySound_queue : QueueLaws s.events := ((eventsSound_iff s).1 h.1).1

theorem deliverySound_tables (work : TableWork s t) : deliverySound t := by
  obtain ⟨es, events⟩ := work.events_eq
  obtain ⟨laws, pinned⟩ := offerAll_queue es (deliverySound_queue h)
  exact deliverySound_events h (events ▸ laws) (events ▸ pinned) work.report_eq work.collector_eq

theorem deliverySound_setPort (p : Port) (q : PortState) : deliverySound (s.setPort p q) :=
  deliverySound_congr h (by simp) (by simp) (by simp)

theorem deliverySound_counts (stale foreign : Word32) :
    deliverySound { s with report := { s.report with staleAcks := stale, foreignAcks := foreign } } := h

/-- R142: a unit that is at work has a collector. -/
theorem deliverySound_target (phase : s.report.phase ≠ .off) : s.collector.target ≠ none :=
  fun none => phase (h.2.1.1.2 none)

end Laws

/-! ### The end of a report (R133, R144, R145, R147) -/

/-- A unit without a current report, no event pinned. -/
theorem deliverySound_closeReport {ph : ReportPhase} {gap : Word16} {s : State} (queue : QueueLaws s.events)
    (pinned : pinnedCount s.events = 0) (settings : collectorSound s) (off : ph = .off ↔ s.collector.target = none)
    (ended : reportCurrent ph = false) (gaps : ph = .gap ↔ gap ≠ 0) : deliverySound (closeReport ph gap s) := by
  refine ⟨(eventsSound_iff _).2 ⟨queue, ?_, fun _ => pinned⟩,
    ⟨off, fun _ => ⟨rfl, rfl, rfl⟩, ?_, fun _ => rfl, gaps, BitVec.le_def.2 (Nat.zero_le _)⟩, settings⟩
  · rw [show (closeReport ph gap s).events = s.events from rfl, pinned]
    exact Nat.zero_le _
  · intro awaits
    rw [show ph = .awaitAck from awaits] at ended
    cases ended

section Ends

variable {s : State} (h : deliverySound s) (phase : s.report.phase ≠ .off)

include h phase

/-- R144, R147, R148: the end of a report whose events have left the queue. -/
theorem deliverySound_endReport {l : List Event} {lost : BitVec 8} (sub : l.Sublist s.events)
    (pinned : pinnedCount l = 0) : deliverySound (endReport { s with events := l, lostCount := lost }) := by
  have queue := (deliverySound_queue h).sublist sub
  have target := deliverySound_target h phase
  unfold endReport
  split
  · exact deliverySound_closeReport queue pinned h.2.2 (by simpa using target) rfl (by simp)
  · exact deliverySound_closeReport queue pinned h.2.2 (by simpa using target) rfl (by simpa using ‹_›)

theorem deliverySound_delivered : deliverySound (endReport (deliverPinned s)) :=
  deliverySound_endReport (lost := s.lostCount) h phase List.filter_sublist (pinnedCount_delivered _)

theorem deliverySound_givenUp : deliverySound (endReport (giveUpPinned s)) :=
  deliverySound_endReport h phase List.filter_sublist (pinnedCount_delivered _)

theorem deliverySound_abandonReport : deliverySound (abandonReport s) :=
  deliverySound_closeReport (s := unpinEvents s) ((deliverySound_queue h).remark (fun _ => rfl)) (pinnedCount_unpinned _)
    h.2.2 (by simpa [unpinEvents] using deliverySound_target h phase) rfl (by simp)

end Ends

/-! ### The report at an arbiter (R13, R143, R144, R146) -/

section Arbiter

variable {s : State} (h : deliverySound s)

include h

/-- R144: the selection of the report frame. -/
theorem deliverySound_reportSelected (waits : s.report.phase = .queued) : deliverySound (reportSelected s) := by
  cases mode : s.collector.ackMode with
  | noAck =>
    rw [reportSelected, mode]
    exact deliverySound_delivered h (by simp [waits])
  | ack =>
    have phase : s.report.phase ≠ .off := by simp [waits]
    obtain ⟨events, ⟨off, -, -, -, gaps, limit⟩, settings⟩ := h
    obtain ⟨queue, few, -⟩ := (eventsSound_iff s).1 events
    rw [reportSelected_ack mode]
    refine ⟨(eventsSound_iff _).2 ⟨queue, few, nofun⟩, ⟨?_, nofun, fun _ => ⟨?_, mode⟩, ?_, ?_, limit⟩, settings⟩
    · simpa [waits] using off
    · have atLeast := settings.2.1
      intro zero
      rw [show s.collector.retryTimeout = 0 from zero] at atLeast
      exact absurd atLeast (by decide)
    · simp
    · simpa [waits] using gaps

theorem deliverySound_select (p : Port) : deliverySound (select p s) := by
  unfold select makeSelection
  split
  swap
  · exact h
  split
  · exact deliverySound_congr h (by simp [startLocal]) (by simp [startLocal]) (by simp [startLocal])
  · rename_i node chosen
    have waits : reportWaiting p s = some node := by
      have reports : firstLocal p s = .report node := by
        unfold choose at chosen
        repeat' split at chosen
        all_goals first | exact chosen | cases chosen
      unfold firstLocal at reports
      repeat' split at reports
      all_goals cases reports
      assumption
    refine deliverySound_reportSelected (deliverySound_setPort h p _) ?_
    simpa [startLocal] using (reportWaiting_eq_some.1 waits).1
  · exact deliverySound_setPort h p _
  · exact h

end Arbiter

/-- R143, R146: what an offer of the report frame needs of the state, with the unit's timers stopped. -/
structure Offerable (s : State) : Prop where
  queue : QueueLaws s.events
  pinned : pinnedCount s.events ≤ Config.eventsPerReport
  settings : collectorSound s
  target : s.collector.target ≠ none
  retryTimer : s.report.retryTimer = 0
  gapTimer : s.report.gapTimer = 0
  retries : s.report.retryCount ≤ s.collector.retryLimit

/-- R142: the report waits at its arbiter. -/
theorem deliverySound_withReportWaiting {s : State} (h : Offerable s) : deliverySound (withReportWaiting s) := by
  obtain ⟨queue, few, settings, target, retryTimer, gapTimer, retries⟩ := h
  refine ⟨(eventsSound_iff _).2 ⟨queue, few, nofun⟩, ⟨?_, nofun, nofun, fun _ => retryTimer, ?_, retries⟩, settings⟩
  · simpa [withReportWaiting] using target
  · simpa [withReportWaiting] using gapTimer

/-- R143, R145, R146: the report waits, is sent at once, or is abandoned at a DOWN port. -/
theorem deliverySound_offerReport {s : State} (h : Offerable s) : deliverySound (offerReport s) := by
  cases target : s.collector.target with
  | none => exact absurd target h.target
  | some t =>
    obtain ⟨node, p⟩ := t
    cases up : (s.port p).up with
    | true =>
      rw [offerReport_up target up]
      exact deliverySound_select (deliverySound_withReportWaiting h) p
    | false =>
      rw [offerReport_down target up]
      exact deliverySound_closeReport (s := unpinEvents s) (h.queue.remark (fun _ => rfl)) (pinnedCount_unpinned _)
        h.settings (by simpa [unpinEvents] using h.target) rfl (by simp)

/-! ### Assembly (R132, R143) -/

theorem selected_length_le (l : List Event) : (selected l).length ≤ Config.eventsPerReport := List.length_take_le _ _

/-- R132: as many events are pinned as were selected, at most. -/
theorem pinnedCount_pinEvents {chosen l : List Event} (distinct : (l.map Event.serial).Nodup)
    (none : pinnedCount l = 0) : pinnedCount (pinEvents chosen l) ≤ chosen.length := by
  have unpinned : ∀ e ∈ l, e.pinned = false := by simpa [pinnedCount] using none
  have count : pinnedCount (pinEvents chosen l) = ((l.filter (isSelected chosen)).map Event.serial).length := by
    simp only [pinnedCount, pinEvents, List.filter_map, List.length_map]
    congr 1
    refine List.filter_congr (fun e he => ?_)
    simp only [Function.comp_apply]
    split <;> simp [*]
  have known : (l.filter (isSelected chosen)).map Event.serial ⊆ chosen.map Event.serial := by
    intro n hn
    obtain ⟨e, he, rfl⟩ := List.mem_map.1 hn
    simpa [isSelected, unpinned e (List.mem_of_mem_filter he)] using (List.mem_filter.1 he).2
  rw [count]
  simpa using ((distinct.sublist (List.filter_sublist.map _)).subperm known).length_le

theorem offerable_buildReport {s : State} (h : deliverySound s) (ready : assemblyReady s = true) :
    Offerable (buildReport s) := by
  have idle : s.report.phase = .idle := by
    simp only [assemblyReady, Bool.and_eq_true, beq_iff_eq] at ready
    exact ready.1.1
  have target := deliverySound_target h (by simp [idle])
  obtain ⟨events, ⟨-, -, -, timer, gap, -⟩, settings⟩ := h
  obtain ⟨queue, -, none⟩ := (eventsSound_iff s).1 events
  have pinned := pinnedCount_pinEvents (chosen := selected s.events) queue.2 (none (by simp [idle, reportCurrent]))
  exact ⟨queue.remark (fun e => by split <;> rfl), pinned.trans (selected_length_le _), settings, target,
    timer (by simp [idle]), show s.report.gapTimer = 0 by simpa [idle] using gap, BitVec.le_def.2 (Nat.zero_le _)⟩

/-! ### Ticks (R146, R149) -/

theorem deliverySound_retryRunsOut {s : State} (h : deliverySound s) (awaits : s.report.phase = .awaitAck) :
    deliverySound (retryRunsOut s) := by
  have phase : s.report.phase ≠ .off := by simp [awaits]
  unfold retryRunsOut
  split
  · rename_i below
    have target := deliverySound_target h phase
    obtain ⟨events, ⟨-, -, -, -, gap, -⟩, settings⟩ := h
    obtain ⟨queue, few, -⟩ := (eventsSound_iff s).1 events
    refine deliverySound_offerReport ⟨queue, few, settings, target, rfl, by simpa [awaits] using gap, ?_⟩
    dsimp only
    bv_omega
  · exact deliverySound_givenUp h phase

theorem deliverySound_lowerTimer {s : State} (h : deliverySound s) : deliverySound (lowerTimer s) := by
  unfold lowerTimer
  split
  · rename_i awaits
    split
    · exact deliverySound_retryRunsOut h awaits
    · obtain ⟨events, ⟨off, none, runs, -, gap, retries⟩, settings⟩ := h
      have mode := (runs awaits).2
      refine ⟨events, ⟨off, none, fun _ => ⟨?_, mode⟩, fun rests => absurd awaits rests, gap, retries⟩, settings⟩
      dsimp only
      bv_omega
  · rename_i pauses
    split
    · exact deliverySound_closeReport (deliverySound_queue h) (h.1.2.2.2 (by simp [pauses, reportCurrent])) h.2.2
        (by simpa using deliverySound_target h (by simp [pauses])) rfl (by simp)
    · obtain ⟨events, ⟨off, none, runs, stopped, -, retries⟩, settings⟩ := h
      refine ⟨events, ⟨off, none, runs, stopped, ⟨fun _ => ?_, fun _ => pauses⟩, retries⟩, settings⟩
      dsimp only
      bv_omega
  all_goals exact h

theorem deliverySound_owed {s : State} (h : deliverySound s) (management report : Bool) :
    deliverySound { s with managementTickOwed := management, reportTickOwed := report } := h

theorem deliverySound_reportTick {s : State} (h : deliverySound s) : deliverySound (reportTick s) := by
  unfold reportTick
  split
  · exact deliverySound_lowerTimer (deliverySound_owed h _ _)
  · exact h

theorem deliverySound_managementTick {s : State} (h : deliverySound s) : deliverySound (managementTick s) := by
  have taken := deliverySound_owed h false s.reportTickOwed
  unfold managementTick lowerLease leaseRunsOut
  repeat' split
  · exact taken
  · refine deliverySound_tables (deliverySound_congr taken ?_ ?_ ?_) (TableWork.offers_one _ _) <;> rw [freeLock_eq]
  · exact taken
  · exact h

/-! ### Ports -/

section Elsewhere

variable {s : State} (h : deliverySound s)

include h

theorem deliverySound_forward (p : Port) (f : Frame) : deliverySound (forward p f s) := by
  unfold forward
  repeat' split
  · exact deliverySound_setPort h _ _
  · exact deliverySound_setPort h _ _
  · exact deliverySound_select (deliverySound_setPort h _ _) _

theorem deliverySound_transit (p : Port) (f : Frame) (d : Damage) : deliverySound (handleTransit p f d s) := by
  have classified := deliverySound_tables h (TableWork.classifies p f d s)
  unfold handleTransit settleFate
  repeat' split
  · exact deliverySound_forward h p f
  · exact deliverySound_setPort classified _ _
  · exact deliverySound_forward (deliverySound_setPort classified _ _) p f
  · exact deliverySound_forward classified p f
  · exact deliverySound_forward classified p f

theorem deliverySound_fall (p : Port) : deliverySound (takeLinkDown p s) := by
  have freed : deliverySound (freeResponses p (s.modifyPort p dropLink)) :=
    deliverySound_congr (deliverySound_setPort h p (dropLink (s.port p))) rfl rfl rfl
  unfold takeLinkDown withdrawReport
  split
  · rename_i waits
    exact deliverySound_abandonReport freed (by simp [(reportWaiting_eq_some.1 waits).1])
  · exact freed

theorem deliverySound_settle : deliverySound (settleCollectorPort s) := by
  unfold settleCollectorPort
  split
  · rw [settleCount_eq]
    exact deliverySound_setPort h _ _
  · exact h

/-! ### Requests -/

theorem deliverySound_ack (source : Byte) (params : List Byte) : deliverySound (takeAck source params s) := by
  unfold takeAck
  repeat' split
  · exact deliverySound_counts h _ _
  · rename_i awaits
    exact deliverySound_delivered h (by simp [awaits.1])
  · exact deliverySound_counts h _ _

theorem deliverySound_dropCurrent :
    deliverySound (dropCurrent s) ∧ reportCurrent (dropCurrent s).report.phase = false := by
  have settled (u : State) : (settleCollectorPort u).report = u.report := by
    unfold settleCollectorPort
    split
    · rw [settleCount_eq, State.modifyPort_report]
    · rfl
  unfold dropCurrent
  split <;> rename_i phase
  · exact ⟨deliverySound_settle (deliverySound_abandonReport h (by simp [phase])), by rw [settled]; rfl⟩
  · exact ⟨deliverySound_abandonReport h (by simp [phase]), rfl⟩
  all_goals exact ⟨h, by simp [phase, reportCurrent]⟩

end Elsewhere

/-- R140, R141: the settings that are read lie in their ranges. -/
theorem parseCollector_ranges {params : List Byte} {c : Collector} (read : parseCollector params = some c) (s : State) :
    collectorSound { s with collector := c } := by
  unfold parseCollector at read
  split at read
  swap
  · cases read
  simp only [Option.bind_eq_bind, Option.bind_eq_some_iff] at read
  obtain ⟨form, -, target, node, mode, -, limit, -, read⟩ := read
  split at read
  swap
  · cases read
  cases read
  rename_i ranges
  refine ⟨fun t ht => ?_, ranges⟩
  cases ht
  split at node
  · cases node
  · split at node
    · cases node
    · obtain ⟨p, -, same⟩ := Option.map_eq_some_iff.1 node
      cases same
      assumption

theorem startPhase_eq_off (c : Collector) : startPhase c = .off ↔ c.target = none := by
  unfold startPhase
  cases c.target <;> simp

theorem reportCurrent_startPhase (c : Collector) : reportCurrent (startPhase c) = false := by
  unfold startPhase
  split <;> rfl

theorem startPhase_ne_gap (c : Collector) : startPhase c ≠ .gap := by
  unfold startPhase
  split <;> simp

/-- R141, R151: the report unit starts anew. -/
theorem deliverySound_start {s : State} (queue : QueueLaws s.events) (pinned : pinnedCount s.events = 0)
    (settings : collectorSound s) : deliverySound (closeReport (startPhase s.collector) 0 s) :=
  deliverySound_closeReport queue pinned settings (startPhase_eq_off _) (reportCurrent_startPhase _)
    (by simpa using startPhase_ne_gap s.collector)

theorem deliverySound_setCollector {s : State} (h : deliverySound s) (params : List Byte) :
    deliverySound (performSetCollector params s).state := by
  unfold performSetCollector
  split
  · exact h
  · rename_i c read
    obtain ⟨dropped, ended⟩ := deliverySound_dropCurrent h
    obtain ⟨queue, -, none⟩ := (eventsSound_iff _).1 dropped.1
    exact deliverySound_start (s := { dropCurrent s with collector := c }) queue (none ended)
      (parseCollector_ranges read _)

theorem deliverySound_pollEvents {s : State} (h : deliverySound s) : deliverySound (performPollEvents s).state := by
  have sub := List.filter_sublist (p := fun e => !isSelected (selected s.events) e) (l := s.events)
  unfold performPollEvents
  split
  · exact h
  · exact deliverySound_events h ((deliverySound_queue h).sublist sub) (pinnedCount_sublist sub) rfl rfl

theorem deliverySound_perform {s : State} (h : deliverySound s) (c : RequestCode) (source : Byte) (params : List Byte)
    (d : Damage) : deliverySound (perform c source params d s).state := by
  cases c
  case claim => rw [perform, performClaim_state_eq]; exact deliverySound_congr h rfl rfl rfl
  case release => rw [perform, performRelease, freeLock_eq]; exact deliverySound_congr h rfl rfl rfl
  case setAddress => rw [perform, performSetAddress_state_eq]; exact deliverySound_congr h rfl rfl rfl
  case setManagers => rw [perform, performSetManagers_state_eq]; exact deliverySound_congr h rfl rfl rfl
  case stageBegin => rw [perform, performStageBegin_state_eq]; exact deliverySound_congr h rfl rfl rfl
  case pollEvents => exact deliverySound_pollEvents h
  case clearCounters =>
    simp only [perform, performClearCounters]
    repeat' split
    · exact h
    · rename_i c _
      rcases c with p | k | _
      · exact deliverySound_setPort h _ _
      · exact deliverySound_tables h (TableWork.slot ..)
      · exact deliverySound_tables (deliverySound_setPort (deliverySound_setPort h .a _) .b _)
          ((TableWork.slots ..).trans (TableWork.clearsHits _))
    · exact h
  case setCollector => exact deliverySound_setCollector h params
  all_goals exact deliverySound_tables h (TableWork.performs (by decide))

/-! ### Restart (R126, R151, R171) -/

theorem deliverySound_restartReport {s : State} (settings : collectorSound s) (empty : s.events = []) :
    deliverySound (restartReport s) := by
  have started := deliverySound_counts
    (deliverySound_start (s := s) (by simp [empty, QueueLaws]) (by simp [empty, pinnedCount]) settings) 0 0
  unfold restartReport
  dsimp only
  split
  · exact deliverySound_settle started
  all_goals exact started

/-- R171 step 2, once the contexts have ended. -/
theorem deliverySound_restartTail {s : State} (settings : collectorSound s) :
    deliverySound (clearPortCounters .b (clearPortCounters .a (restartReport
      { s.modifySlots clearFlags with events := [], lostCount := 0 }))).clearHits := by
  have reported :=
    deliverySound_restartReport (s := { s.modifySlots clearFlags with events := [], lostCount := 0 }) settings rfl
  exact deliverySound_tables (deliverySound_setPort (deliverySound_setPort reported .a _) .b _) (TableWork.clearsHits _)

theorem deliverySound_restartManagement {s : State} (h : deliverySound s) : deliverySound (restartManagement s) :=
  deliverySound_congr h rfl rfl rfl

theorem deliverySound_restart {s : State} (h : deliverySound s) : deliverySound (restartPart s) := by
  have ended := deliverySound_tables h ((WatchWork.discards s).trans (WatchWork.endsAll (fun _ => true) .restart _)).tables
  rw [restartPart, restartBlocks]
  exact deliverySound_restartManagement (deliverySound_restartTail ended.2.2)

/-! ### The statement -/

theorem deliverySound_reset (held : Bool) (cause : ResetCause) (s : State) : deliverySound (resetState held cause s) := by
  have events : (resetState held cause s).events = [] := rfl
  have report : (resetState held cause s).report = .reset := rfl
  have collector : (resetState held cause s).collector = .reset := rfl
  simp only [deliverySound, eventsSound, reportSound, collectorSound, events, report, collector]
  decide

theorem deliverySound_request : KeptByRequests deliverySound where
  overrun _ _ h := deliverySound_congr h rfl rfl rfl
  place x s h _ _ :=
    deliverySound_select (deliverySound_congr (t := { s with responses := s.responses ++ [x] }) h rfl rfl rfl) x.port
  cache r payload s h := by rw [updateCache_eq]; exact deliverySound_congr h rfl rfl rfl
  ack source params _ h := deliverySound_ack h source params
  renew source s h := by rw [renew_eq]; exact deliverySound_congr h rfl rfl rfl
  perform c source params d _ h _ := deliverySound_perform h c source params d
  restart _ h := deliverySound_restart h

theorem deliverySound_countTick {s : State} (h : deliverySound s) : deliverySound (countTick s) :=
  deliverySound_congr h rfl rfl rfl

theorem deliverySound_kept : Kept deliverySound where
  pending _ _ h := deliverySound_congr h rfl rfl rfl
  reset held cause s _ := deliverySound_reset held cause s
  rise p _ h _ _ := deliverySound_setPort h p _
  fall p _ h _ := deliverySound_fall h p
  reception p _ _ h _ := deliverySound_setPort h p _
  count p _ _ _ h := deliverySound_setPort h p _
  transit p f d _ h _ := deliverySound_transit h p f d
  request _ d _ h admitted := deliverySound_request.request d h admitted
  transmission p _ h _ := deliverySound_select (deliverySound_setPort h p _) p
  expiry i d s h := deliverySound_tables h (TableWork.expires i d s)
  managementTick _ h := deliverySound_managementTick h
  reportTick _ h := deliverySound_reportTick h
  timeBase _ settled _ := deliverySound_countTick settled
  assembly _ h ready := deliverySound_offerReport (offerable_buildReport h ready)
  drain k s h _ := deliverySound_tables h ((WatchWork.drain k s).tables.trans (TableWork.offers _ _))

/-- Settles O58: the laws of the event queue, the report unit and its settings survive every happening. -/
theorem everyStepKeepsTheDeliverySound : Obligations.EveryStepKeepsTheDeliverySound :=
  fun _ _ h taken => deliverySound_kept.step h taken

end Sys2Proof.Machine
end

section
/-! SUPPORT. A law about the tables alone, said once: it survives every happening as soon as it survives the work of the
classifier, the watch engine, the program store and the clock. -/

namespace Sys2Proof.Machine

open Sys2Proof.Safety

/-! ### Happenings beside the tables -/

/-- The tables and the tick count stay; of the staging buffer, an OPEN one may be emptied (R164). -/
structure Beside (s t : State) : Prop where
  entries : t.entries = s.entries
  mode : t.mode = s.mode
  latch : t.faultLatch = s.faultLatch
  slots : t.slots = s.slots
  contexts : t.contexts = s.contexts
  tick : t.tick = s.tick
  staging : t.staging = s.staging ∨ stagingOpen s = true ∧ t.staging = .empty

namespace Beside

theorem refl (s : State) : Beside s s := ⟨rfl, rfl, rfl, rfl, rfl, rfl, Or.inl rfl⟩

theorem trans {s t u : State} (first : Beside s t) (second : Beside t u) : Beside s u where
  entries := second.entries.trans first.entries
  mode := second.mode.trans first.mode
  latch := second.latch.trans first.latch
  slots := second.slots.trans first.slots
  contexts := second.contexts.trans first.contexts
  tick := second.tick.trans first.tick
  staging := by
    rcases first.staging with same | emptied
    · rw [← TableWork.stagingOpen_congr same, ← same]
      exact second.staging
    · rcases second.staging with same | ⟨opens, -⟩
      · exact Or.inr ⟨emptied.1, same.trans emptied.2⟩
      · rw [TableWork.stagingOpen_of_empty emptied.2] at opens
        cases opens

theorem port (p : Port) (q : PortState) (s : State) : Beside s (s.setPort p q) := by
  constructor <;> simp

theorem select (p : Port) (s : State) : Beside s (select p s) := by
  constructor <;> simp

theorem offer (e : EventBody) (s : State) : Beside s (offer e s) := by
  constructor <;> simp

theorem offers (es : List EventBody) (s : State) : Beside s (offerAll es s) := by
  constructor <;> simp

theorem report (events : List Event) (lost : BitVec 8) (unit : ReportUnit) (s : State) :
    Beside s { s with events := events, lostCount := lost, report := unit } :=
  ⟨rfl, rfl, rfl, rfl, rfl, rfl, Or.inl rfl⟩

theorem owed (management unit : Bool) (s : State) :
    Beside s { s with managementTickOwed := management, reportTickOwed := unit } :=
  ⟨rfl, rfl, rfl, rfl, rfl, rfl, Or.inl rfl⟩

theorem lock (l : Option Lease) (s : State) : Beside s { s with lock := l } :=
  ⟨rfl, rfl, rfl, rfl, rfl, rfl, Or.inl rfl⟩

theorem answers (x : List Response) (c : List CacheEntry) (n : Word32) (s : State) :
    Beside s { s with responses := x, cache := c, overruns := n } :=
  ⟨rfl, rfl, rfl, rfl, rfl, rfl, Or.inl rfl⟩

theorem discardOpen (s : State) : Beside s (discardOpen s) := by
  unfold Machine.discardOpen
  split
  · exact ⟨rfl, rfl, rfl, rfl, rfl, rfl, Or.inr ⟨by simp [stagingOpen, *], rfl⟩⟩
  · exact refl s
  · exact refl s

theorem freeLock (s : State) : Beside s (freeLock s) := (lock none s).trans (discardOpen _)

theorem endReport (s : State) : Beside s (endReport s) := by
  rw [endReport_eq_closeReport]
  exact report s.events s.lostCount _ s

theorem offerReport (s : State) : Beside s (offerReport s) := by
  unfold Machine.offerReport
  repeat' split
  · exact (report s.events s.lostCount _ s).trans (select _ _)
  · exact report _ _ _ s
  · exact refl s

theorem settle (s : State) : Beside s (settleCollectorPort s) := by
  unfold settleCollectorPort
  split
  · rw [settleCount_eq]
    exact port _ _ s
  · exact refl s

theorem managementTick (s : State) : Beside s (managementTick s) := by
  have taken := owed false s.reportTickOwed s
  unfold Machine.managementTick lowerLease leaseRunsOut
  repeat' split
  · exact taken
  · exact (taken.trans (freeLock _)).trans (offer _ _)
  · exact taken.trans (lock _ _)
  · exact refl s

theorem reportTick (s : State) : Beside s (reportTick s) := by
  have taken := owed s.managementTickOwed false s
  have timed (unit : ReportUnit) (u : State) : Beside u { u with report := unit } := report u.events u.lostCount unit u
  unfold Machine.reportTick lowerTimer retryRunsOut
  repeat' split
  · exact (taken.trans (timed _ _)).trans (offerReport _)
  · exact (taken.trans (report _ _ _ _)).trans (endReport _)
  · exact taken.trans (timed _ _)
  · exact taken.trans (timed _ _)
  · exact taken.trans (timed _ _)
  · exact taken
  · exact taken
  · exact taken
  · exact refl s

theorem fall (p : Port) (s : State) : Beside s (takeLinkDown p s) := by
  have freed := (port p (dropLink (s.port p)) s).trans
    (answers (s.responses.filter (fun r => r.port != p)) s.cache s.overruns _)
  rw [takeLinkDown, withdrawReport_eq]
  have same : freeResponses p (s.modifyPort p dropLink) =
      { s.setPort p (dropLink (s.port p)) with
        responses := s.responses.filter (fun r => r.port != p), cache := s.cache, overruns := s.overruns } := by
    cases p <;> rfl
  rw [same]
  exact freed.trans (report _ _ _ _)

theorem forward (p : Port) (f : Frame) (s : State) : Beside s (forward p f s) := by
  unfold Machine.forward
  repeat' split
  · exact port _ _ s
  · exact port _ _ s
  · exact (port _ _ s).trans (select _ _)

theorem ack (source : Byte) (params : List Byte) (s : State) : Beside s (takeAck source params s) := by
  have counted (unit : ReportUnit) (u : State) : Beside u { u with report := unit } := report u.events u.lostCount unit u
  unfold takeAck
  repeat' split
  · exact counted _ s
  · exact (report _ s.lostCount s.report s).trans (endReport _)
  · exact counted _ s

theorem place (x : Response) (s : State) : Beside s (placeResponse x s) :=
  (answers (s.responses ++ [x]) s.cache s.overruns s).trans (select _ _)

theorem cache (r : Request) (payload : List Byte) (s : State) : Beside s (updateCache r payload s) := by
  rw [updateCache_eq]
  exact answers s.responses _ s.overruns s

theorem renew (source : Byte) (s : State) : Beside s (renew source s) := by
  rw [renew_eq]
  exact lock _ s

theorem dropCurrent (s : State) : Beside s (dropCurrent s) := by
  have abandoned : Beside s (abandonReport s) := report _ _ _ s
  unfold Machine.dropCurrent
  split
  · exact abandoned.trans (settle _)
  · exact abandoned
  all_goals exact refl s

theorem restartManagement (s : State) : Beside s (restartManagement s) := ⟨rfl, rfl, rfl, rfl, rfl, rfl, Or.inl rfl⟩

theorem restartReport (s : State) : Beside s (restartReport s) := by
  have closed (unit : ReportUnit) : Beside s { s with report := unit } := report s.events s.lostCount unit s
  unfold Machine.restartReport
  dsimp only
  split
  · exact (closed _).trans (settle _)
  all_goals exact closed _

/-- R112: the rise of the tick count, at both. -/
theorem countTick {s t : State} (h : Beside s t) : Beside { s with tick := s.tick + 1 } (countTick t) := by
  obtain ⟨entries, mode, latch, slots, contexts, tick, staging⟩ := h
  exact ⟨entries, mode, latch, slots, contexts, by rw [Machine.countTick, tick], staging⟩

end Beside

/-! ### A law about the tables -/

/-- R41: the entry that is read has a range of kinds. -/
theorem parseEntry_range {params : List Byte} {i : EntryIndex} {e : MatchEntry}
    (read : parseEntry params = some (i, e)) : e.kindLow ≤ e.kindHigh := by
  unfold parseEntry at read
  split at read
  swap
  · cases read
  simp only [Option.bind_eq_bind, Option.bind_eq_some_iff] at read
  obtain ⟨_, -, _, -, _, -, _, -, _, -, low, -, high, -, _, -, read⟩ := read
  split at read
  · cases read
  · cases read
    bv_omega

/-- The slots differ at most in their counters, latches and full-reported flags. -/
def Remarked (s t : State) : Prop :=
  ∀ k, (t.slot k).status = (s.slot k).status ∧ (t.slot k).generation = (s.slot k).generation ∧
    (t.slot k).contextCount = (s.slot k).contextCount ∧ (t.slot k).liveAlarms = (s.slot k).liveAlarms

/-- A change of a slot's counters, latch and full-reported flag. -/
def IsMark (f : Slot → Slot) : Prop :=
  ∀ x, (f x).status = x.status ∧ (f x).generation = x.generation ∧ (f x).contextCount = x.contextCount ∧
    (f x).liveAlarms = x.liveAlarms

theorem Remarked.slot (k : SlotIndex) {f : Slot → Slot} (mark : IsMark f) (s : State) : Remarked s (s.modifySlot k f) := by
  intro j
  by_cases e : j = k
  · rw [e, State.modifySlot_slot_same]
    exact mark _
  · rw [State.modifySlot_slot_ne e]
    exact ⟨rfl, rfl, rfl, rfl⟩

theorem Remarked.everySlot {f : Slot → Slot} (mark : IsMark f) (s : State) : Remarked s (s.modifySlots f) := by
  intro j
  rw [State.modifySlots_slot_same]
  exact mark _

/-- A law that survives the work on the tables, one field for each kind of work. -/
structure TableLaw (P : State → Prop) : Prop where
  beside : ∀ {s t : State}, P s → Beside s t → P t
  remark : ∀ (x : Vector Slot 8) (s : State), P s → Remarked s { s with slots := x } → P { s with slots := x }
  reset : ∀ (held : Bool) (cause : ResetCause) (s : State), P (resetState held cause s)
  fault : ∀ (l : Location) (s : State), P s → P (integrityFault l s)
  entry : ∀ (i : EntryIndex) (e : MatchEntry) (s : State), P s →
    ((s.entry i).kindLow ≤ (s.entry i).kindHigh → e.kindLow ≤ e.kindHigh) → P (s.setEntry i e)
  hits : ∀ s : State, P s → P s.clearHits
  evaluate : ∀ (k : SlotIndex) (img : Image) (draining : Bool) (f : Frame) (s : State), P s → s.mode ≠ .bypass →
    f.admitted → f.dest ≠ 255#8 → (s.slot k).status = (if draining then .draining img else .active img) →
    P (evaluateSound k img draining f s).state
  expire : ∀ (i : ContextIndex) (img : Image) (c : Context) (s : State), P s → s.context i = some c →
    (s.slot c.slot).status.image = some img → P (expireContext i img c s)
  mode : ∀ (m : Mode) (s : State), P s → (m ≠ .bypass → s.faultLatch = none) → P (changeMode m s).1
  unlatch : ∀ s : State, P s → P { s with faultLatch := none }
  opens : ∀ (img : Image) (s : State), P s → (∀ w k, s.staging ≠ .pending w k) →
    P { s with staging := .opened img }
  discard : ∀ s : State, P s → P (discardStaging s)
  commit : ∀ (drain : Bool) (k : SlotIndex) (img : Image) (s : State), P s → s.staging = .opened img →
    validate img = none → P (commitImage drain k img s).state
  erase : ∀ (k : SlotIndex) (img : Image) (s : State), P s → (s.slot k).status = .active img →
    P (eraseActive k s).state
  finish : ∀ (i : ContextIndex) (r : EndReason) (s : State), P s → P (endContext i r s).1
  finishAll : ∀ (r : EndReason) (s : State), P s → P (endContexts (fun _ => true) r s).state
  drain : ∀ (k : SlotIndex) (s : State), P s → drainDone s = some k → P (completeDrain k s).1
  time : ∀ s : State, P s → P (takeDue s) → P { takeDue s with tick := (takeDue s).tick + 1 }

namespace TableLaw

variable {P : State → Prop} (law : TableLaw P) {s : State}

include law

theorem offers (es : List EventBody) (h : P s) : P (offerAll es s) := law.beside h (Beside.offers es s)

theorem setPort (p : Port) (q : PortState) (h : P s) : P (s.setPort p q) := law.beside h (Beside.port p q s)

theorem slot (k : SlotIndex) {f : Slot → Slot} (mark : IsMark f) (h : P s) : P (s.modifySlot k f) :=
  law.remark _ s h (Remarked.slot k mark s)

theorem everySlot {f : Slot → Slot} (mark : IsMark f) (h : P s) : P (s.modifySlots f) :=
  law.remark _ s h (Remarked.everySlot mark s)

/-! ### Transit frames and expiries -/

theorem watch (k : SlotIndex) (img : Image) (draining : Bool) {f : Frame} (d : Damage) (h : P s)
    (awake : s.mode ≠ .bypass) (hf : f.admitted)
    (installed : (s.slot k).status = if draining then .draining img else .active img) :
    P (watchFrame k img draining f d s).state := by
  simp only [watchFrame]
  repeat' split
  · rw [TableWork.holdOnAlarm_state]; exact h
  · exact law.fault _ s h
  · rename_i single _ _
    rw [TableWork.holdOnAlarm_state]
    exact law.evaluate k img draining f s h awake hf single installed

theorem classify (p : Port) {f : Frame} (d : Damage) (h : P s) (awake : s.mode ≠ .bypass) (hf : f.admitted) :
    P (classify p f d s).state := by
  unfold Machine.classify
  split
  · exact law.fault _ s h
  · rename_i i _
    have hit : P (countHit i s) := law.entry i _ s h id
    unfold actOn
    repeat' split
    · exact hit
    · exact hit
    · exact hit
    · rename_i installed
      exact law.watch _ _ false d hit awake hf (by simpa using installed)
    · rename_i installed
      exact law.watch _ _ true d hit awake hf (by simpa using installed)
  · exact h

theorem forward (p : Port) (f : Frame) (h : P s) : P (forward p f s) := law.beside h (Beside.forward p f s)

theorem transit (p : Port) {f : Frame} (d : Damage) (h : P s) (hf : f.admitted) : P (handleTransit p f d s) := by
  unfold handleTransit settleFate
  split
  · exact law.forward p f h
  · rename_i awake
    have classified := law.classify p d h awake hf
    repeat' split
    · exact law.setPort _ _ classified
    · exact law.forward p f (law.setPort _ _ classified)
    · exact law.forward p f classified
    · exact law.forward p f classified

theorem expiry (i : ContextIndex) (d : Damage) (h : P s) : P (expireIfDue i d s) := by
  unfold expireIfDue takeExpiry
  repeat' split
  · exact h
  · exact law.fault _ s h
  · exact h
  · exact law.fault _ s h
  · exact law.expire _ _ _ s h ‹_› ‹_›
  · exact h

/-! ### Requests -/

theorem readImage (k : SlotIndex) (d : Damage) (h : P s) : P (readImage k d s) := by
  unfold Machine.readImage
  split
  · exact law.fault _ s h
  · exact h

theorem readRecord (i : ContextIndex) (d : Damage) (h : P s) : P (readRecord i d s) := by
  unfold Machine.readRecord
  split
  · exact law.fault _ s h
  · exact h

theorem writeImage (f : Image → Image) (h : P s) : P (writeImage f s).state := by
  unfold Machine.writeImage
  split
  · rename_i opened
    exact law.opens _ s h (by simp [opened])
  · exact h
  · exact h

theorem setMode (params : List Byte) (h : P s) : P (performSetMode params s).state := by
  unfold performSetMode
  repeat' split
  · exact h
  · rename_i m a _ _ allowed
    have takes : P { s with defaultAction := a } :=
      law.beside h ⟨rfl, rfl, rfl, rfl, rfl, rfl, Or.inl rfl⟩
    exact law.mode m _ takes (fun other => by simpa [other] using allowed)
  · exact h
  · exact h

theorem stageCommit (params : List Byte) (h : P s) : P (performStageCommit params s).state := by
  unfold performStageCommit
  repeat' split
  · exact h
  · exact law.commit _ _ _ s h ‹_› ‹_›
  · exact h
  · exact h
  · exact h
  · exact h

theorem endChecked (i : ContextIndex) (g : Option Guard) (d : Damage) (h : P s) : P (endChecked i g d s).state := by
  simp only [Machine.endChecked, forceEnd]
  repeat' split
  · exact h
  · exact law.fault _ s h
  · exact law.offers _ (law.finish _ _ s h)
  · exact h

theorem clearAlarms (params : List Byte) (h : P s) : P (performClearAlarms params s).state := by
  unfold performClearAlarms
  split
  · refine law.remark _ s h (fun k => ?_)
    simp only [State.slot, Fin.getElem_fin, Vector.getElem_ofFn]
    split <;> exact ⟨rfl, rfl, rfl, rfl⟩
  · exact h

theorem clearCounters (params : List Byte) (h : P s) : P (performClearCounters params s).state := by
  unfold performClearCounters
  repeat' split
  · exact h
  · rename_i c _
    rcases c with p | k | _
    · exact law.setPort _ _ h
    · exact law.slot k (fun _ => ⟨rfl, rfl, rfl, rfl⟩) h
    · exact law.hits _ (law.everySlot (f := clearSlotCounters) (fun _ => ⟨rfl, rfl, rfl, rfl⟩)
        (law.setPort .b _ (law.setPort .a _ h)))
  · exact h

theorem perform (c : RequestCode) (source : Byte) (params : List Byte) (d : Damage) (h : P s) :
    P (perform c source params d s).state := by
  have beside {t : State} (b : Beside s t) : P t := law.beside h b
  cases c <;> simp only [Machine.perform]
  case claim => rw [performClaim_state_eq]; exact beside (Beside.lock _ s)
  case release => exact beside (Beside.freeLock s)
  case setAddress => rw [performSetAddress_state_eq]; exact beside ⟨rfl, rfl, rfl, rfl, rfl, rfl, Or.inl rfl⟩
  case setManagers => rw [performSetManagers_state_eq]; exact beside ⟨rfl, rfl, rfl, rfl, rfl, rfl, Or.inl rfl⟩
  case pollEvents => rw [performPollEvents_state_eq]; exact beside ⟨rfl, rfl, rfl, rfl, rfl, rfl, Or.inl rfl⟩
  case setCollector =>
    unfold performSetCollector
    split
    · exact h
    · exact beside ((Beside.dropCurrent s).trans ⟨rfl, rfl, rfl, rfl, rfl, rfl, Or.inl rfl⟩)
  case setMode => exact law.setMode params h
  case clearFault => exact law.unlatch s h
  case writeMatch =>
    unfold performWriteMatch
    split
    · exact h
    · rename_i read
      exact law.entry _ _ s h (fun _ => parseEntry_range read)
  case readMatch =>
    simp only [performReadMatch]
    repeat' split
    · exact h
    · exact law.fault _ s h
    · exact h
    · exact h
  case stageBegin =>
    unfold performStageBegin
    split
    · exact law.opens _ s h (by simp [*])
    · exact law.opens _ s h (by simp [*])
    · exact h
  case stageHeader =>
    unfold performStageHeader
    split
    · exact h
    · exact law.writeImage _ h
  case stageState =>
    unfold performStageState
    split
    · exact h
    · exact law.writeImage _ h
  case stageTransition =>
    unfold performStageTransition
    repeat' split
    · exact h
    · exact law.writeImage _ h
    · exact h
    · exact law.writeImage _ h
  case stageCommit => exact law.stageCommit params h
  case stageAbort =>
    unfold performStageAbort
    split
    · exact law.discard s h
    · exact law.discard s h
    · exact h
  case eraseSlot =>
    unfold performEraseSlot
    repeat' split
    · exact h
    · exact h
    · exact law.erase _ _ s h ‹_›
    · exact h
    · exact h
  case readSlot =>
    simp only [performReadSlot]
    repeat' split
    · exact law.readImage _ d h
    · exact h
    · exact h
  case readTransition =>
    simp only [performReadTransition]
    repeat' split
    · exact law.readImage _ d h
    · exact law.readImage _ d h
    · exact h
    · exact h
  case readContext =>
    simp only [performReadContext]
    repeat' split
    · exact h
    · exact law.readRecord _ d h
    · exact h
  case findContexts =>
    simp only [performFindContexts, scanTable]
    repeat' split
    · exact law.readRecord _ _ h
    all_goals exact h
  case endContext =>
    unfold performEndContext
    repeat' split
    · exact h
    · exact law.endChecked _ _ d h
    · exact h
    · exact law.endChecked _ _ d h
    · exact h
    · exact h
  case readPortCounters =>
    simp only [performReadPortCounters]
    repeat' split
    all_goals exact h
  case readSlotCounters =>
    simp only [performReadSlotCounters]
    repeat' split
    all_goals exact h
  case clearCounters => exact law.clearCounters params h
  case clearAlarms => exact law.clearAlarms params h
  all_goals exact h

/-- R171 steps 2 and 3, once the contexts have ended. -/
theorem restartTail (h : P s) :
    P (restartManagement (clearPortCounters .b (clearPortCounters .a (restartReport
      { s.modifySlots clearFlags with events := [], lostCount := 0 }))).clearHits) := by
  have cleared := law.beside (law.everySlot (f := clearFlags) (fun _ => ⟨rfl, rfl, rfl, rfl⟩) h)
    (Beside.report [] 0 s.report _)
  exact law.beside (law.hits _ (law.setPort .b _ (law.setPort .a _ (law.beside cleared (Beside.restartReport _)))))
    (Beside.restartManagement _)

theorem restart (h : P s) : P (restartPart s) := by
  rw [restartPart, restartBlocks]
  exact law.restartTail (law.finishAll .restart _ (law.discard s h))

theorem request : KeptByRequests P where
  overrun _ s h := law.beside h (Beside.answers s.responses s.cache _ s)
  place x s h _ _ := law.beside h (Beside.place x s)
  cache r payload s h := law.beside h (Beside.cache r payload s)
  ack source params s h := law.beside h (Beside.ack source params s)
  renew source s h := law.beside h (Beside.renew source s)
  perform c source params d _ h _ := law.perform c source params d h
  restart _ h := law.restart h

/-! ### Ticks -/

theorem due (h : P s) : P (takeDue s) := by
  have fold : ∀ (l : List ContextIndex) (s : State), P s → P (l.foldl (fun s i => expireIfDue i none s) s) := by
    intro l
    induction l with
    | nil => exact fun s h => h
    | cons i l ih => exact fun s h => ih _ (law.expiry i none h)
  exact fold contextIndices s h

omit law in
theorem settled (s : State) : Beside (takeDue s) (settleTick s) :=
  (Beside.managementTick _).trans (Beside.reportTick _)

/-- R112: the count rises once what the present tick asks is settled. -/
theorem countTick (h : P s) : P (countTick (settleTick s)) :=
  law.beside (law.time s h (law.due h)) (settled s).countTick

theorem kept : Kept P where
  pending _ _ h := law.beside h ⟨rfl, rfl, rfl, rfl, rfl, rfl, Or.inl rfl⟩
  reset held cause s _ := law.reset held cause s
  rise p _ h _ _ := law.setPort p _ h
  fall p s h _ := law.beside h (Beside.fall p s)
  reception p _ _ h _ := law.setPort p _ h
  count p _ _ _ h := law.setPort p _ h
  transit p _ d _ h hf := law.transit p d h hf
  request _ d _ h admitted := law.request.request d h admitted
  transmission p _ h _ := law.beside (law.setPort p _ h) (Beside.select p _)
  expiry i d _ h := law.expiry i d h
  managementTick s h := law.beside h (Beside.managementTick s)
  reportTick s h := law.beside h (Beside.reportTick s)
  timeBase _ _ h := law.countTick h
  assembly _ h _ := law.beside h ((Beside.report _ _ _ _).trans (Beside.offerReport _))
  drain k s h done := law.offers _ (law.drain k s h done)

end TableLaw

end Sys2Proof.Machine
end

section
/-! SUPPORT. Every happening keeps the laws of the mode and the match table (R23, R32, R36); with the statement. -/

namespace Sys2Proof.Machine

open Sys2Proof.Safety

/-! ### Work that creates no context -/

/-- Free contexts stay free. -/
def Frees (s t : State) : Prop := ∀ i : ContextIndex, s.context i = none → t.context i = none

namespace Frees

theorem of_contexts {s t : State} (h : t.contexts = s.contexts) : Frees s t :=
  fun i free => (State.context_congr h i).trans free

theorem finish (i : ContextIndex) (r : EndReason) (s : State) : Frees s (endContext i r s).1 := by
  intro j free
  rw [endContext_context]
  split
  · rfl
  · exact free

theorem finishAll (which : Context → Bool) (r : EndReason) (s : State) : Frees s (endContexts which r s).state := by
  intro j free
  rw [endContexts_context, free]
  rfl

theorem trans {s t u : State} (first : Frees s t) (second : Frees t u) : Frees s u :=
  fun i free => second i (first i free)

theorem slot (k : SlotIndex) (f : Slot → Slot) (s : State) : Frees s (s.modifySlot k f) := of_contexts rfl

theorem offers (es : List EventBody) (s : State) : Frees s (offerAll es s) := of_contexts (offerAll_contexts es s)

theorem shut (s : State) : Frees s { s with staging := .empty } := of_contexts rfl

theorem removeProgram (k : SlotIndex) (r : EndReason) (s : State) : Frees s (removeProgram k r s).state := by
  simp only [Machine.removeProgram]
  split
  · exact (finishAll _ r s).trans (slot _ _ _)
  · exact finishAll _ r s

theorem remove (l : Location) (s : State) : Frees s (removeFaulty l s).state := by
  cases l with
  | matchEntry i => exact of_contexts rfl
  | program k => exact removeProgram k .fault s
  | context i =>
    intro j free
    rw [removeFaulty, endNext_context]
    split
    · rw [show (⟨s, 0, []⟩ : Ended).state = s from rfl, free]
      rfl
    · exact free

theorem erase (k : SlotIndex) (s : State) : Frees s (eraseActive k s).state :=
  ((removeProgram k .erased s).trans (slot _ _ _)).trans (offers _ _)

theorem discard (s : State) : Frees s (discardStaging s) := by
  refine of_contexts ?_
  unfold discardStaging
  split <;> rfl

theorem drain (k : SlotIndex) (s : State) : Frees s (completeDrain k s).1 :=
  of_contexts (by rw [completeDrain_eq])

theorem commit (d : Bool) (k : SlotIndex) (img : Image) (s : State) : Frees s (commitImage d k img s).state := by
  have now : Frees s (commitNow k img s).state := by
    have told (e : EventBody) (n : Nat) (u : State) : Frees u (if 0 < n then offer e u else u) := by
      split
      · exact offers [e] u
      · exact of_contexts rfl
    simp only [commitNow]
    exact ((((finishAll _ .superseded s).trans (offers _ _)).trans (told _ _ _)).trans (slot k _ _)).trans (shut _)
  unfold commitImage
  repeat' split
  · exact now
  · exact of_contexts rfl
  · exact now

end Frees

/-! ### An integrity fault, at the classifier's items -/

theorem offerAll_context (es : List EventBody) (s : State) (i : ContextIndex) : (offerAll es s).context i = s.context i :=
  State.context_congr (offerAll_contexts es s) i

theorem offer_context (e : EventBody) (s : State) (i : ContextIndex) : (offer e s).context i = s.context i :=
  State.context_congr (offer_contexts e s) i

theorem changeToBypass_context (r : EndReason) (s : State) (i : ContextIndex) :
    (changeToBypass r s).state.context i = none := by
  rw [changeToBypass, endContexts_context]
  cases State.context _ i <;> rfl

theorem changeToBypass_mode (r : EndReason) (s : State) : (changeToBypass r s).state.mode = .bypass := by
  rw [changeToBypass, endContexts_eq]

theorem latchFault_eq (l : Location) (s : State) : latchFault l s = { s with faultLatch := some (s.faultLatch.getD l) } := by
  unfold latchFault
  split <;> rename_i h
  · simp [h]
  · obtain ⟨⟩ := s
    simp_all

/-- R36 step 3: in either case the mode is BYPASS afterwards. -/
theorem faultToBypass_mode (e : Ended) (s : State) : (faultToBypass e s).mode = .bypass := by
  unfold faultToBypass
  split
  · simpa using ‹s.mode = .bypass›
  · simp [changeToBypass_mode]

/-- R32, R36: no context is left when the mode has changed, and none was in use in BYPASS. -/
theorem faultToBypass_context {e : Ended} {s : State} (quiet : s.mode = .bypass → ∀ i : ContextIndex, s.context i = none)
    (i : ContextIndex) : (faultToBypass e s).context i = none := by
  unfold faultToBypass
  split
  · rw [offerAll_context]
    exact quiet ‹_› i
  · rw [offer_context, offerAll_context, changeToBypass_context]

theorem changeToBypass_entries (r : EndReason) (s : State) : (changeToBypass r s).state.entries = s.entries := by
  rw [changeToBypass, endContexts_eq]

theorem faultToBypass_entries (e : Ended) (s : State) : (faultToBypass e s).entries = s.entries := by
  unfold faultToBypass
  split <;> simp [changeToBypass_entries]

/-- R35: at the match table a fault clears a faulty entry, and does nothing else. -/
theorem removeFaulty_entries (l : Location) (s : State) :
    (∃ i, l = .matchEntry i ∧ (removeFaulty l s).state = s.setEntry i .cleared) ∨
      WatchWork s (removeFaulty l s).state := by
  cases l with
  | matchEntry i => exact Or.inl ⟨i, rfl, rfl⟩
  | program k => exact Or.inr (WatchWork.removes k .fault s)
  | context i => exact Or.inr (WatchWork.endsNext _ .fault ⟨s, 0, []⟩ i)

theorem removeFaulty_mode (l : Location) (s : State) : (removeFaulty l s).state.mode = s.mode := by
  obtain ⟨i, -, cleared⟩ | work := removeFaulty_entries l s
  · rw [cleared]
    rfl
  · exact work.classifier.1

/-! ### The mode -/

section Mode

variable {s t : State} (h : modeSound s)

include h

theorem modeSound_work (work : WatchWork s t)
    (quiet : s.mode = .bypass → (∀ i : ContextIndex, s.context i = none) → ∀ i, t.context i = none) : modeSound t := by
  obtain ⟨mode, latch, -⟩ := work.classifier
  exact ⟨fun b => quiet (mode ▸ b) (h.1 (mode ▸ b)), fun faulted => mode ▸ h.2 (latch ▸ faulted)⟩

theorem modeSound_frees (work : WatchWork s t) (frees : Frees s t) : modeSound t :=
  modeSound_work h work (fun _ quiet i => frees i (quiet i))

/-- The mode, the latch and the context table alone matter. -/
theorem modeSound_congr (mode : t.mode = s.mode) (latch : t.faultLatch = s.faultLatch) (contexts : t.contexts = s.contexts) :
    modeSound t :=
  ⟨fun b i => (State.context_congr contexts i).trans (h.1 (mode ▸ b) i), fun faulted => mode ▸ h.2 (latch ▸ faulted)⟩

theorem modeSound_tick (n : Word32) : modeSound { s with tick := n } := h

theorem modeSound_hits : modeSound s.clearHits := by
  have entries : s.clearHits = { s with entries := s.clearHits.entries } := rfl
  generalize s.clearHits.entries = cleared at entries
  rw [entries]
  exact h

theorem modeSound_fault (l : Location) : modeSound (integrityFault l s) := by
  refine ⟨fun _ => faultToBypass_context (fun b i => ?_), fun _ => faultToBypass_mode _ _⟩
  rw [latchFault_eq] at b ⊢
  rw [offer_context]
  refine Frees.remove l s i (h.1 ?_ i)
  simpa [removeFaulty_mode] using b

theorem modeSound_changeMode {m : Mode} (allowed : m ≠ .bypass → s.faultLatch = none) : modeSound (changeMode m s).1 := by
  simp only [changeMode]
  split
  · exact h
  split
  · refine ⟨fun _ i => ?_, fun _ => by simp [changeToBypass_mode]⟩
    simp only [offer_context, offerAll_context]
    exact changeToBypass_context _ _ i
  · rename_i awake
    exact ⟨fun b => by simp [awake] at b, fun faulted => by simp [allowed awake] at faulted⟩

end Mode

theorem modeSound_reset (held : Bool) (cause : ResetCause) (s : State) : modeSound (resetState held cause s) := by
  have contexts : (resetState held cause s).contexts = Vector.replicate 96 none := rfl
  refine ⟨fun _ i => ?_, fun faulted => absurd rfl faulted⟩
  simp [State.context, contexts]

theorem modeSound_law : TableLaw modeSound where
  beside h b := modeSound_congr h b.mode b.latch b.contexts
  remark _ _ h _ := h
  reset := modeSound_reset
  fault l _ h := modeSound_fault h l
  entry _ _ _ h _ := h
  hits _ h := modeSound_hits h
  evaluate k img draining f s h awake _ _ _ :=
    modeSound_work h (WatchWork.evaluates k img draining f s) (fun b => absurd b awake)
  expire i img c s h live _ :=
    modeSound_work h (WatchWork.expiresContext i img c s) (fun _ quiet => by simp [quiet i] at live)
  mode _ _ h allowed := modeSound_changeMode h allowed
  unlatch _ h := ⟨h.1, fun faulted => absurd rfl faulted⟩
  opens _ _ h _ := h
  discard s h := modeSound_frees h (WatchWork.discards s) (Frees.discard s)
  commit d k img s h _ _ := modeSound_frees h (WatchWork.commitsImage d k img s) (Frees.commit d k img s)
  erase k _ s h _ := modeSound_frees h (WatchWork.erasesActive k s) (Frees.erase k s)
  finish i r s h := modeSound_frees h (WatchWork.ends i r s) (Frees.finish i r s)
  finishAll r s h := modeSound_frees h (WatchWork.endsAll _ r s) (Frees.finishAll _ r s)
  drain k s h _ := modeSound_frees h (WatchWork.drain k s) (Frees.drain k s)
  time _ _ h := modeSound_tick h _

/-! ### The match table -/

theorem entriesSound_congr {s t : State} (h : entriesSound s) (entries : t.entries = s.entries) : entriesSound t :=
  fun i => by rw [State.entry_congr entries]; exact h i

theorem entriesSound_work {s t : State} (h : entriesSound s) (work : WatchWork s t) : entriesSound t :=
  entriesSound_congr h work.classifier.2.2.1

theorem entriesSound_setEntry {i : EntryIndex} {e : MatchEntry} {s : State} (h : entriesSound s)
    (range : e.kindLow ≤ e.kindHigh) : entriesSound (s.setEntry i e) := by
  intro j
  by_cases same : j = i
  · rw [same, State.setEntry_entry_same]
    exact range
  · rw [State.setEntry_entry_ne same]
    exact h j

theorem entriesSound_fault (l : Location) {s : State} (h : entriesSound s) : entriesSound (integrityFault l s) := by
  have removed : entriesSound (removeFaulty l s).state := by
    obtain ⟨i, -, cleared⟩ | work := removeFaulty_entries l s
    · rw [cleared]
      exact entriesSound_setEntry h (by decide)
    · exact entriesSound_work h work
  refine entriesSound_congr removed ?_
  rw [integrityFault, faultToBypass_entries, offer_entries, latchFault_eq]

theorem entriesSound_changeMode (m : Mode) {s : State} (h : entriesSound s) : entriesSound (changeMode m s).1 := by
  refine entriesSound_congr h ?_
  simp only [changeMode]
  repeat' split
  · rfl
  · simp [changeToBypass_entries]
  · simp

theorem entriesSound_reset (held : Bool) (cause : ResetCause) (s : State) : entriesSound (resetState held cause s) := by
  have entries : (resetState held cause s).entries = Vector.replicate 48 .cleared := rfl
  intro i
  have cleared : (resetState held cause s).entry i = .cleared := by simp [State.entry, entries]
  rw [cleared]
  decide

theorem entriesSound_tick {s : State} (h : entriesSound s) (n : Word32) : entriesSound { s with tick := n } := h

theorem entriesSound_law : TableLaw entriesSound where
  beside h b := entriesSound_congr h b.entries
  remark _ _ h _ := entriesSound_congr h rfl
  reset := entriesSound_reset
  fault l _ h := entriesSound_fault l h
  entry i _ _ h range := entriesSound_setEntry h (range (h i))
  hits s h := fun i => by rw [State.clearHits_entry]; exact h i
  evaluate k img draining f s h _ _ _ _ := entriesSound_work h (WatchWork.evaluates k img draining f s)
  expire i img c s h _ _ := entriesSound_work h (WatchWork.expiresContext i img c s)
  mode m _ h _ := entriesSound_changeMode m h
  unlatch _ h := entriesSound_congr h rfl
  opens _ _ h _ := entriesSound_congr h rfl
  discard s h := entriesSound_work h (WatchWork.discards s)
  commit d k img s h _ _ := entriesSound_work h (WatchWork.commitsImage d k img s)
  erase k _ s h _ := entriesSound_work h (WatchWork.erasesActive k s)
  finish i r s h := entriesSound_work h (WatchWork.ends i r s)
  finishAll r s h := entriesSound_work h (WatchWork.endsAll _ r s)
  drain k s h _ := entriesSound_work h (WatchWork.drain k s)
  time _ _ h := entriesSound_tick h _

/-- Settles O56: the laws of the mode and of the match table survive every happening. -/
theorem everyStepKeepsTheClassifierSound : Obligations.EveryStepKeepsTheClassifierSound :=
  ⟨fun _ _ h taken => modeSound_law.kept.step h taken, fun _ _ h taken => entriesSound_law.kept.step h taken⟩

end Sys2Proof.Machine
end

section
/-! SUPPORT. Validation of a staged image (R57, R58), check by check; with the statement. -/

namespace Sys2Proof.Machine

/-! ### What fails (R58) -/

/-- R58: a target names a state below the state count, or END. -/
def Fits (n : Nat) (g : Target) : Prop :=
  match g with
  | .state t => t.val < n
  | .finish => True

/-- R58 step 1. -/
def HeaderFails (img : Image) (r : FailReason) : Prop :=
  (img.header.stateCount.val = 0 ∧ r = .noStates) ∨
    (img.header.stateCount.val ≠ 0 ∧
      (∃ g, img.header.unexpected.target = .move g ∧ ¬Fits img.header.stateCount.val g) ∧ r = .badTarget)

/-- R58 step 2, at one record. -/
def StateFails (img : Image) (t : StateIndex) (r : FailReason) : Prop :=
  t.val < img.header.stateCount.val ∧
    (((img.state t).timeout = 0 ∧ r = .timeoutUnset) ∨
      ((img.state t).timeout ≠ 0 ∧ ¬Fits img.header.stateCount.val (img.state t).target ∧ r = .badTarget))

/-- R58 step 3, at one transition. -/
def TransitionFails (n : Nat) (t : Transition) (r : FailReason) : Prop :=
  let badFrom := n ≤ t.fromState.val
  let badKinds := t.kindHigh < t.kindLow
  let startsReverse := t.fromState = 0 ∧ t.direction = .reverse
  let badRelation := (t.relation = .next ∨ t.relation = .same) ∧ (t.direction = .reverse ∨ t.fromState = 0)
  (badFrom ∧ r = .badFrom) ∨
    (¬badFrom ∧ ¬Fits n t.target ∧ r = .badTarget) ∨
    (¬badFrom ∧ Fits n t.target ∧ badKinds ∧ r = .badKindRange) ∨
    (¬badFrom ∧ Fits n t.target ∧ ¬badKinds ∧ startsReverse ∧ r = .startNotForward) ∨
    (¬badFrom ∧ Fits n t.target ∧ ¬badKinds ∧ ¬startsReverse ∧ badRelation ∧ r = .badRelation)

/-- R58 step 3, at one position. -/
def PositionFails (img : Image) (p : Position) (r : FailReason) : Prop :=
  ∃ t : Transition, img.positions[p] = some t ∧ TransitionFails img.header.stateCount.val t r

/-- R58 step 4. -/
def StartsNot (img : Image) : Prop :=
  ∀ (p : Position) (t : Transition), img.positions[p] = some t → t.fromState ≠ 0

/-! ### The checks find what fails -/

/-- R58: of two checks the first that fails is reported. -/
theorem reports_iff {c : Prop} [Decidable c] {a r : FailReason} {q pl : FailPlace} {rest : Option Failure} :
    (if c then some ⟨a, q⟩ else rest) = some ⟨r, pl⟩ ↔ (c ∧ pl = q ∧ r = a) ∨ (¬c ∧ rest = some ⟨r, pl⟩) := by
  by_cases h : c <;> simp [h, eq_comm, and_comm]

theorem badTarget_iff {n : Fin 17} {g : Target} : badTarget n g = true ↔ ¬Fits n.val g := by
  cases g <;> simp [badTarget, Fits]

theorem checkHeader_eq_some {img : Image} {r : FailReason} {pl : FailPlace} :
    checkHeader img.header = some ⟨r, pl⟩ ↔ pl = .header ∧ HeaderFails img r := by
  have moves : img.header.unexpected.target.move?.any (badTarget img.header.stateCount) = true ↔
      ∃ g, img.header.unexpected.target = .move g ∧ ¬Fits img.header.stateCount.val g := by
    cases img.header.unexpected.target <;> simp [UnexpectedTarget.move?, badTarget_iff]
  simp only [checkHeader, HeaderFails, reports_iff, moves, reduceCtorEq, and_false, or_false]
  tauto

theorem checkState_eq_some {n : Fin 17} {t : StateIndex} {x : StateRecord} {r : FailReason} {pl : FailPlace} :
    checkState n t x = some ⟨r, pl⟩ ↔
      pl = .state t ∧ ((x.timeout = 0 ∧ r = .timeoutUnset) ∨ (x.timeout ≠ 0 ∧ ¬Fits n.val x.target ∧ r = .badTarget)) := by
  simp only [checkState, badTarget_iff, reports_iff, reduceCtorEq, and_false, or_false]
  tauto

theorem checkTransition_eq_some {n : Fin 17} {p : Position} {t : Transition} {r : FailReason} {pl : FailPlace} :
    checkTransition n p t = some ⟨r, pl⟩ ↔ pl = .transition p ∧ TransitionFails n.val t r := by
  simp only [checkTransition, TransitionFails, badTarget_iff, reports_iff, reduceCtorEq, and_false, or_false, not_not]
  by_cases place : pl = .transition p
  · simp only [place, true_and, and_or_left]
  · simp only [place, false_and, and_false, or_false]

theorem checkStates_eq_some {img : Image} {r : FailReason} {pl : FailPlace} :
    checkStates img = some ⟨r, pl⟩ ↔
      ∃ t, pl = .state t ∧ StateFails img t r ∧ ∀ u < t, ∀ x, ¬StateFails img u x := by
  have one (t : StateIndex) (r : FailReason) (pl : FailPlace) :
      (if t.val < img.header.stateCount.val then checkState img.header.stateCount t img.states[t] else none) =
        some ⟨r, pl⟩ ↔ pl = .state t ∧ StateFails img t r := by
    split <;> rename_i below
    · rw [checkState_eq_some]
      simp [StateFails, below, Image.state]
    · simp [StateFails, below]
  have other (t : StateIndex) :
      (if t.val < img.header.stateCount.val then checkState img.header.stateCount t img.states[t] else none) = none ↔
        ∀ x, ¬StateFails img t x := by
    rw [Option.eq_none_iff_forall_ne_some]
    exact ⟨fun h x fails => h ⟨x, .state t⟩ ((one t x _).2 ⟨rfl, fails⟩),
      fun h x e => h x.reason ((one t x.reason x.place).1 e).2⟩
  rw [checkStates, findSome_finRange_eq_some]
  simp only [one, other, and_assoc]

theorem checkTransitions_eq_some {img : Image} {r : FailReason} {pl : FailPlace} :
    checkTransitions img = some ⟨r, pl⟩ ↔
      ∃ p, pl = .transition p ∧ PositionFails img p r ∧ ∀ q < p, ∀ x, ¬PositionFails img q x := by
  have one (p : Position) (r : FailReason) (pl : FailPlace) :
      (img.positions[p]).bind (checkTransition img.header.stateCount p) = some ⟨r, pl⟩ ↔
        pl = .transition p ∧ PositionFails img p r := by
    simp only [Option.bind_eq_some_iff, checkTransition_eq_some, PositionFails]
    exact ⟨fun ⟨t, h, e, fails⟩ => ⟨e, t, h, fails⟩, fun ⟨e, t, h, fails⟩ => ⟨t, h, e, fails⟩⟩
  have other (p : Position) :
      (img.positions[p]).bind (checkTransition img.header.stateCount p) = none ↔ ∀ x, ¬PositionFails img p x := by
    rw [Option.eq_none_iff_forall_ne_some]
    exact ⟨fun h x fails => h ⟨x, .transition p⟩ ((one p x _).2 ⟨rfl, fails⟩),
      fun h x e => h x.reason ((one p x.reason x.place).1 e).2⟩
  rw [checkTransitions, positionIndices, findSome_finRange_eq_some]
  simp only [one, other, and_assoc]

theorem checkWhole_eq_some {img : Image} {r : FailReason} {pl : FailPlace} :
    checkWhole img = some ⟨r, pl⟩ ↔ pl = .whole ∧ StartsNot img ∧ r = .noEntry := by
  have starts : positionIndices.any (fun p => (img.positions[p]).any (fun t => t.fromState == 0)) = true ↔
      ¬StartsNot img := by
    simp [positionIndices, StartsNot, Option.any_eq_true]
  simp only [checkWhole]
  by_cases h : StartsNot img
  · rw [if_neg (fun e => starts.1 e h)]
    simp [h, eq_comm, and_comm]
  · rw [if_pos (starts.2 h)]
    simp [h]

/-! ### No check fails -/

theorem checkHeader_eq_none {img : Image} : checkHeader img.header = none ↔ ∀ x, ¬HeaderFails img x := by
  rw [Option.eq_none_iff_forall_ne_some]
  exact ⟨fun h x fails => h ⟨x, _⟩ (checkHeader_eq_some.2 ⟨rfl, fails⟩),
    fun h x e => h x.reason (checkHeader_eq_some.1 e).2⟩

theorem checkStates_eq_none {img : Image} : checkStates img = none ↔ ∀ t x, ¬StateFails img t x := by
  simp only [checkStates, List.findSome?_eq_none_iff, List.mem_finRange, true_imp_iff]
  refine forall_congr' (fun t => ?_)
  rw [Option.eq_none_iff_forall_ne_some]
  refine ⟨fun h x fails => h ⟨x, .state t⟩ ?_, fun h x e => ?_⟩
  · rw [if_pos fails.1]
    exact checkState_eq_some.2 ⟨rfl, fails.2⟩
  · split at e
    · exact h x.reason ⟨‹_›, (checkState_eq_some.1 e).2⟩
    · cases e

theorem checkTransitions_eq_none {img : Image} : checkTransitions img = none ↔ ∀ p x, ¬PositionFails img p x := by
  simp only [checkTransitions, positionIndices, List.findSome?_eq_none_iff, List.mem_finRange, true_imp_iff]
  refine forall_congr' (fun p => ?_)
  rw [Option.eq_none_iff_forall_ne_some]
  refine ⟨fun h x ⟨t, filled, fails⟩ => h ⟨x, .transition p⟩ ?_, fun h x e => ?_⟩
  · rw [filled]
    exact checkTransition_eq_some.2 ⟨rfl, fails⟩
  · obtain ⟨t, filled, found⟩ := Option.bind_eq_some_iff.1 e
    exact h x.reason ⟨t, filled, (checkTransition_eq_some.1 found).2⟩

/-! ### Validation -/

theorem validate_eq_some {img : Image} {x : Failure} :
    validate img = some x ↔
      checkHeader img.header = some x ∨ (∀ r, ¬HeaderFails img r) ∧
        (checkStates img = some x ∨ (∀ t r, ¬StateFails img t r) ∧
          (checkTransitions img = some x ∨ (∀ p r, ¬PositionFails img p r) ∧ checkWhole img = some x)) := by
  simp only [validate, Option.or_eq_some_iff, checkHeader_eq_none, checkStates_eq_none, checkTransitions_eq_none]

/-- R58: the fields of the image fit together. -/
def FitsTogether (img : Image) : Prop :=
  0 < img.header.stateCount.val ∧
    (∀ g : Target, img.header.unexpected.target = .move g → Fits img.header.stateCount.val g) ∧
    (∀ t : StateIndex, t.val < img.header.stateCount.val →
      (img.state t).timeout ≠ 0 ∧ Fits img.header.stateCount.val (img.state t).target) ∧
    (∀ (p : Position) (t : Transition), img.positions[p] = some t →
      t.fromState.val < img.header.stateCount.val ∧ Fits img.header.stateCount.val t.target ∧ t.kindLow ≤ t.kindHigh ∧
        (t.fromState = 0 → t.direction = .forward) ∧
        (t.relation = .next ∨ t.relation = .same → t.direction = .forward ∧ t.fromState ≠ 0)) ∧
    ∃ (p : Position) (t : Transition), img.positions[p] = some t ∧ t.fromState = 0

theorem header_fits_iff {img : Image} :
    (∀ r, ¬HeaderFails img r) ↔
      0 < img.header.stateCount.val ∧
        ∀ g : Target, img.header.unexpected.target = .move g → Fits img.header.stateCount.val g := by
  constructor
  · intro h
    have states : img.header.stateCount.val ≠ 0 := fun zero => h .noStates (Or.inl ⟨zero, rfl⟩)
    exact ⟨by omega, fun g move => by_contra fun bad => h .badTarget (Or.inr ⟨states, ⟨g, move, bad⟩, rfl⟩)⟩
  · rintro ⟨states, moves⟩ r (⟨zero, -⟩ | ⟨-, ⟨g, move, bad⟩, -⟩)
    · omega
    · exact bad (moves g move)

theorem states_fit_iff {img : Image} :
    (∀ t r, ¬StateFails img t r) ↔
      ∀ t : StateIndex, t.val < img.header.stateCount.val →
        (img.state t).timeout ≠ 0 ∧ Fits img.header.stateCount.val (img.state t).target := by
  refine forall_congr' fun t => ⟨fun h below => ?_, fun h r fails => ?_⟩
  · have set : (img.state t).timeout ≠ 0 := fun zero => h .timeoutUnset ⟨below, Or.inl ⟨zero, rfl⟩⟩
    exact ⟨set, by_contra fun bad => h .badTarget ⟨below, Or.inr ⟨set, bad, rfl⟩⟩⟩
  · obtain ⟨below, ⟨zero, -⟩ | ⟨-, bad, -⟩⟩ := fails
    · exact (h below).1 zero
    · exact bad (h below).2

theorem transition_fits_iff {n : Nat} {t : Transition} :
    (∀ r, ¬TransitionFails n t r) ↔
      t.fromState.val < n ∧ Fits n t.target ∧ t.kindLow ≤ t.kindHigh ∧ (t.fromState = 0 → t.direction = .forward) ∧
        (t.relation = .next ∨ t.relation = .same → t.direction = .forward ∧ t.fromState ≠ 0) := by
  have direction : t.direction = .reverse ↔ t.direction ≠ .forward := by cases t.direction <;> simp
  have kinds : t.kindHigh < t.kindLow ↔ ¬t.kindLow ≤ t.kindHigh := by bv_omega
  have source : n ≤ t.fromState.val ↔ ¬t.fromState.val < n := by omega
  constructor
  · intro h
    have h1 := h .badFrom
    have h2 := h .badTarget
    have h3 := h .badKindRange
    have h4 := h .startNotForward
    have h5 := h .badRelation
    simp only [TransitionFails, direction, kinds, source, reduceCtorEq, and_false, and_true, false_or, or_false, not_not]
      at h1 h2 h3 h4 h5
    tauto
  · rintro ⟨h1, h2, h3, h4, h5⟩ r fails
    simp only [TransitionFails, direction, kinds, source] at fails
    tauto

theorem positions_fit_iff {img : Image} :
    (∀ p r, ¬PositionFails img p r) ↔
      ∀ (p : Position) (t : Transition), img.positions[p] = some t →
        t.fromState.val < img.header.stateCount.val ∧ Fits img.header.stateCount.val t.target ∧ t.kindLow ≤ t.kindHigh ∧
          (t.fromState = 0 → t.direction = .forward) ∧
          (t.relation = .next ∨ t.relation = .same → t.direction = .forward ∧ t.fromState ≠ 0) := by
  simp only [← transition_fits_iff]
  exact ⟨fun h p t filled r fails => h p r ⟨t, filled, fails⟩, fun h p r ⟨t, filled, fails⟩ => h p t filled r fails⟩

theorem validate_eq_none {img : Image} : validate img = none ↔ FitsTogether img := by
  have starts : checkWhole img = none ↔ ∃ (p : Position) (t : Transition), img.positions[p] = some t ∧ t.fromState = 0 := by
    rw [Option.eq_none_iff_forall_ne_some]
    constructor
    · intro h
      by_contra none
      exact h ⟨.noEntry, .whole⟩ (checkWhole_eq_some.2 ⟨rfl, fun p t filled zero => none ⟨p, t, filled, zero⟩, rfl⟩)
    · rintro ⟨p, t, filled, zero⟩ x e
      exact (checkWhole_eq_some.1 e).2.1 p t filled zero
  simp only [validate, Option.or_eq_none_iff, checkHeader_eq_none, checkStates_eq_none, checkTransitions_eq_none,
    header_fits_iff, states_fit_iff, positions_fit_iff, starts, FitsTogether, and_assoc]

/-! ### The statement -/

section Places

variable {img : Image} {r : FailReason}

theorem validate_header_iff : validate img = some ⟨r, .header⟩ ↔ HeaderFails img r := by
  simp [validate_eq_some, checkHeader_eq_some, checkStates_eq_some, checkTransitions_eq_some, checkWhole_eq_some]

theorem validate_state_iff (t : StateIndex) :
    validate img = some ⟨r, .state t⟩ ↔
      (∀ x, ¬HeaderFails img x) ∧ StateFails img t r ∧ ∀ u < t, ∀ x, ¬StateFails img u x := by
  simp [validate_eq_some, checkHeader_eq_some, checkStates_eq_some, checkTransitions_eq_some, checkWhole_eq_some]

theorem validate_transition_iff (p : Position) :
    validate img = some ⟨r, .transition p⟩ ↔
      (∀ x, ¬HeaderFails img x) ∧ (∀ t x, ¬StateFails img t x) ∧ PositionFails img p r ∧
        ∀ q < p, ∀ x, ¬PositionFails img q x := by
  simp [validate_eq_some, checkHeader_eq_some, checkStates_eq_some, checkTransitions_eq_some, checkWhole_eq_some]

theorem validate_whole_iff :
    validate img = some ⟨r, .whole⟩ ↔
      (∀ x, ¬HeaderFails img x) ∧ (∀ t x, ¬StateFails img t x) ∧ (∀ p x, ¬PositionFails img p x) ∧ StartsNot img ∧
        r = .noEntry := by
  simp [validate_eq_some, checkHeader_eq_some, checkStates_eq_some, checkTransitions_eq_some, checkWhole_eq_some]

end Places

theorem failureBytes_eq (x : Failure) :
    failureBytes x =
      (match x.reason with
        | .noStates => 1#8
        | .timeoutUnset => 2#8
        | .badTarget => 3#8
        | .badFrom => 4#8
        | .badKindRange => 5#8
        | .startNotForward => 6#8
        | .badRelation => 7#8
        | .noEntry => 8#8) ::
      (match x.place with
        | .header => [0#8, 255#8]
        | .state t => [1#8, BitVec.ofNat 8 t.val]
        | .transition p => [2#8, BitVec.ofNat 8 p.val]
        | .whole => [3#8, 255#8]) := by
  obtain ⟨reason, place⟩ := x
  cases place <;> rfl

/-- Settles O17: validation, check by check. -/
theorem validationAcceptsFittingImages : Obligations.ValidationAcceptsFittingImages :=
  ⟨fun _ => ⟨validate_eq_none, fun _ =>
    ⟨validate_header_iff, validate_state_iff, validate_transition_iff, validate_whole_iff⟩⟩, failureBytes_eq⟩

/-! ### What an install keeps (R52) -/

theorem installedImage_header (img : Image) : (installedImage img).header = img.header := rfl

theorem installedImage_positions (img : Image) : (installedImage img).positions = img.positions := rfl

theorem installedImage_state {img : Image} {t : StateIndex} (below : t.val < img.header.stateCount.val) :
    (installedImage img).state t = img.state t := by
  simp [installedImage, Image.state, below]

theorem validate_installedImage {img : Image} (valid : validate img = none) : validate (installedImage img) = none := by
  rw [validate_eq_none, FitsTogether] at *
  rw [installedImage_header, installedImage_positions]
  obtain ⟨h1, h2, h3, h4, h5⟩ := valid
  exact ⟨h1, h2, fun t below => by rw [installedImage_state below]; exact h3 t below, h4, h5⟩

end Sys2Proof.Machine
end

section
/-! SUPPORT. The laws of the dialogues (R44, R46, R50, R66, R68, R69, R77, R78, R123, R173), in the form that the proofs
use, and what one change of the context table does to them. -/

namespace Sys2Proof.Machine

open Sys2Proof.Safety

/-! ### Numbers of contexts (R77, R78) -/

/-- 1 when there is a context that `which` admits, else 0. -/
def contextBit (which : Context → Bool) (c : Option Context) : Nat := if c.any which then 1 else 0

theorem contextBit_none (which : Context → Bool) : contextBit which none = 0 := rfl

theorem contextBit_some (which : Context → Bool) (c : Context) :
    contextBit which (some c) = if which c then 1 else 0 := rfl

theorem countContexts_congr {which : Context → Bool} {s t : State} (h : t.contexts = s.contexts) :
    countContexts which t = countContexts which s := by
  simp only [countContexts, State.context_congr h]

theorem countContexts_eq_zero {which : Context → Bool} {s : State} :
    countContexts which s = 0 ↔ ∀ i : ContextIndex, ∀ c ∈ s.context i, which c = false := by
  simp only [countContexts, List.length_eq_zero_iff, List.filter_eq_nil_iff, contextIndices, List.mem_finRange, true_imp_iff]
  refine forall_congr' fun i => ?_
  cases s.context i <;> simp

theorem countContexts_pos {which : Context → Bool} {s : State} {i : ContextIndex} {c : Context} (h : s.context i = some c)
    (admits : which c = true) : 0 < countContexts which s := by
  by_contra zero
  have none := countContexts_eq_zero.1 (Nat.eq_zero_of_not_pos zero) i c h
  simp [admits] at none

theorem countContexts_le {p q : Context → Bool} {s : State} (h : ∀ c, p c = true → q c = true) :
    countContexts p s ≤ countContexts q s := by
  refine (List.monotone_filter_right _ fun i admits => ?_).length_le
  cases e : s.context i with
  | none => simp [e] at admits
  | some c =>
    rw [e] at admits
    exact h c admits

/-- Along a list of distinct indices, a change at one of them moves the count by that one's bits. -/
theorem length_filter_change {l : List ContextIndex} {i : ContextIndex} {p q : ContextIndex → Bool} (distinct : l.Nodup)
    (here : i ∈ l) (same : ∀ j, j ≠ i → p j = q j) :
    (l.filter p).length + (if q i then 1 else 0) = (l.filter q).length + (if p i then 1 else 0) := by
  induction l with
  | nil => cases here
  | cons j l ih =>
    obtain ⟨absent, distinct⟩ := List.nodup_cons.1 distinct
    by_cases e : j = i
    · subst e
      have tail : l.filter p = l.filter q := List.filter_congr fun m hm => same m fun e => absent (e ▸ hm)
      simp only [List.filter_cons, tail]
      cases p j <;> cases q j <;> simp
    · have inTail : i ∈ l := by simpa [Ne.symm e] using here
      have := ih distinct inTail
      simp only [List.filter_cons, same j e]
      split
      · simp only [List.length_cons]
        omega
      · exact this

/-- A change at one index moves the number of contexts by that index's bits. -/
theorem countContexts_change {which : Context → Bool} {s t : State} {i : ContextIndex}
    (others : ∀ j, j ≠ i → t.context j = s.context j) :
    countContexts which t + contextBit which (s.context i) = countContexts which s + contextBit which (t.context i) :=
  length_filter_change (p := fun j => (t.context j).any which) (q := fun j => (s.context j).any which)
    (List.nodup_finRange 96) (List.mem_finRange i) fun j e => by rw [others j e]

/-! ### The laws, in the form that the proofs use -/

theorem contextSound_iff (c : Context) (s : State) :
    contextSound c s ↔
      c.generation = (s.slot c.slot).generation ∧ c.initiator ≠ c.responder ∧ c.initiator ≠ Config.broadcast ∧
        c.responder ≠ Config.broadcast ∧
        ∃ img, (s.slot c.slot).status.image = some img ∧ c.state.val < img.header.stateCount.val ∧
          (c.deadline - s.tick).toNat ≤ ((img.state c.state).timeout).toNat := by
  simp [contextSound, Option.any_eq_true]

theorem contextSound_congr {c : Context} {s t : State} (h : contextSound c s)
    (image : (t.slot c.slot).status.image = (s.slot c.slot).status.image)
    (generation : (t.slot c.slot).generation = (s.slot c.slot).generation) (tick : t.tick = s.tick) :
    contextSound c t := by
  rw [contextSound_iff, image, generation, tick]
  exact (contextSound_iff c s).1 h

/-- R173: the waiting image and its target, while the buffer is PENDING. -/
def waitingImage : Staging → Option (Image × SlotIndex)
  | .pending img k => some (img, k)
  | .opened _ => none
  | .empty => none

/-- R44, R46, R178: the law of a slot, by its status, its number of contexts and what waits. -/
def SlotLaw (k : SlotIndex) (status : SlotStatus) (contexts : Nat) (waiting : Option (Image × SlotIndex)) : Prop :=
  match status with
  | .empty => ∀ w ∈ waiting, w.2 ≠ k
  | .active img => validate img = none ∧ ∀ w ∈ waiting, w.2 ≠ k
  | .draining img =>
    validate img = none ∧ 0 < contexts ∧ ∃ w ∈ waiting, validate w.1 = none ∧ w.2 = k

theorem slotSound_iff (k : SlotIndex) (s : State) :
    slotSound k s ↔ SlotLaw k (s.slot k).status (s.slot k).contextCount (waitingImage s.staging) := by
  unfold slotSound SlotLaw
  cases (s.slot k).status <;> cases s.staging <;> simp [waitingImage]
  tauto

theorem Remarked.of_slots {s t : State} (h : t.slots = s.slots) : Remarked s t :=
  fun k => by simp [State.slot_congr h k]

/-- The laws of the context table look at the contexts, the time and four items of a slot: the image is one of them. -/
theorem contextsSound_congr {s t : State} (h : contextsSound s) (contexts : t.contexts = s.contexts) (tick : t.tick = s.tick)
    (image : ∀ k, (t.slot k).status.image = (s.slot k).status.image)
    (generation : ∀ k, (t.slot k).generation = (s.slot k).generation)
    (count : ∀ k, (t.slot k).contextCount = (s.slot k).contextCount)
    (alarms : ∀ k, (t.slot k).liveAlarms = (s.slot k).liveAlarms) : contextsSound t := by
  obtain ⟨live, keys, counts⟩ := h
  have context := State.context_congr contexts
  refine ⟨fun i c hc => ?_, fun i j c hc d hd => ?_, fun k => ?_⟩
  · rw [context] at hc
    exact contextSound_congr (live i c hc) (image _) (generation _) tick
  · rw [context] at hc hd
    exact keys i j c hc d hd
  · simp only [countsSound, SlotStatus.alarmState, image, count, alarms, countContexts_congr contexts]
    exact counts k

/-- The laws of the dialogues look at the contexts, what waits, the time and four items of a slot. -/
theorem dialoguesSound_congr {s t : State} (h : dialoguesSound s) (slots : Remarked s t)
    (contexts : t.contexts = s.contexts) (tick : t.tick = s.tick)
    (waiting : waitingImage t.staging = waitingImage s.staging) : dialoguesSound t := by
  refine ⟨contextsSound_congr h.1 contexts tick (fun k => by rw [(slots k).1]) (fun k => (slots k).2.1)
    (fun k => (slots k).2.2.1) (fun k => (slots k).2.2.2), fun k => ?_⟩
  obtain ⟨status, -, count, -⟩ := slots k
  rw [slotSound_iff, status, count, waiting, ← slotSound_iff]
  exact h.2 k

/-- R69: the key is symmetric. -/
theorem sameKey_symm {c d : Context} (h : sameKey c d) : sameKey d c := by
  simp only [sameKey, keyMatches, Bool.and_eq_true, Bool.or_eq_true, beq_iff_eq] at *
  obtain ⟨slot, ⟨i, r⟩ | ⟨i, r⟩⟩ := h
  · exact ⟨slot.symm, Or.inl ⟨i.symm, r.symm⟩⟩
  · exact ⟨slot.symm, Or.inr ⟨r.symm, i.symm⟩⟩

/-- R78: the contexts of slot `k` in an ALARM state. -/
def alarming (k : SlotIndex) (s : State) (c : Context) : Bool := ofSlot k c && (s.slot k).status.alarmState c.state

/-- One context is written or freed, and the live counts follow. -/
structure Rewrites (i : ContextIndex) (s t : State) : Prop where
  tick : t.tick = s.tick
  others : ∀ j, j ≠ i → t.context j = s.context j
  status : ∀ k, (t.slot k).status = (s.slot k).status
  generation : ∀ k, (t.slot k).generation = (s.slot k).generation
  count : ∀ k, (t.slot k).contextCount + contextBit (ofSlot k) (s.context i) =
    (s.slot k).contextCount + contextBit (ofSlot k) (t.context i)
  alarms : ∀ k, (t.slot k).liveAlarms + contextBit (alarming k s) (s.context i) =
    (s.slot k).liveAlarms + contextBit (alarming k s) (t.context i)
  live : ∀ c, t.context i = some c → contextSound c s
  key : ∀ c j d, t.context i = some c → j ≠ i → s.context j = some d → ¬sameKey c d

theorem contextsSound_rewrites {i : ContextIndex} {s t : State} (h : contextsSound s) (w : Rewrites i s t) :
    contextsSound t := by
  obtain ⟨live, keys, counts⟩ := h
  refine ⟨fun j c hc => ?_, fun j m c hc d hd same => ?_, fun k => ?_⟩
  · have sound : contextSound c s := by
      by_cases e : j = i
      · exact w.live c (e ▸ hc)
      · exact live j c (by rw [← w.others j e]; exact hc)
    exact contextSound_congr sound (by rw [w.status]) (w.generation _) w.tick
  · by_cases ej : j = i <;> by_cases em : m = i
    · rw [ej, em]
    · rw [w.others m em] at hd
      exact absurd same (w.key c m d (ej ▸ hc) em hd)
    · rw [w.others j ej] at hc
      exact absurd (sameKey_symm same) (w.key d j c (em ▸ hd) ej hc)
    · rw [w.others j ej] at hc
      rw [w.others m em] at hd
      exact keys j m c hc d hd same
  · obtain ⟨count, alarms⟩ := counts k
    have changed (which : Context → Bool) := countContexts_change (which := which) w.others
    have ofK := changed (ofSlot k)
    have inAlarm := changed (alarming k s)
    have count' := w.count k
    have alarms' := w.alarms k
    have counted : (s.slot k).liveAlarms = countContexts (alarming k s) s := alarms
    refine ⟨by omega, ?_⟩
    rw [w.status k]
    change _ = countContexts (alarming k s) t
    omega

/-- While no context leaves a DRAINING slot the laws of the slots stay with it. -/
theorem dialoguesSound_rewrites {i : ContextIndex} {s t : State} (h : dialoguesSound s) (w : Rewrites i s t)
    (staging : t.staging = s.staging)
    (drains : ∀ k img, (s.slot k).status = .draining img → 0 < (t.slot k).contextCount) : dialoguesSound t := by
  refine ⟨contextsSound_rewrites h.1 w, fun k => ?_⟩
  have law := (slotSound_iff k s).1 (h.2 k)
  rw [slotSound_iff, w.status, staging]
  cases e : (s.slot k).status with
  | empty => rwa [e] at law
  | active img => rwa [e] at law
  | draining img =>
    rw [e] at law
    exact ⟨law.1, drains k img e, law.2.2⟩

/-! ### One context ends (R79) -/

section Ends

variable {i : ContextIndex} {c : Context} {r : EndReason} {s : State}

theorem freeContext_context (j : ContextIndex) : (freeContext i c r s).context j = if j = i then none else s.context j := by
  simp only [freeContext, State.modifySlots_context, State.modifySlot_context]
  split
  · rename_i e
    rw [e, State.setContext_context_same]
  · exact State.setContext_context_ne ‹_› _ _

/-- R79 steps 1 to 4 keep the laws of the context table. -/
theorem rewrites_freeContext (h : contextsSound s) (used : s.context i = some c) : Rewrites i s (freeContext i c r s) := by
  obtain ⟨-, -, counts⟩ := h
  obtain ⟨count, alarms⟩ := counts c.slot
  have inSlot : 0 < countContexts (ofSlot c.slot) s := countContexts_pos used (by simp [ofSlot])
  have here : (freeContext i c r s).context i = none := by rw [freeContext_context, if_pos rfl]
  refine ⟨rfl, fun j e => by rw [freeContext_context, if_neg e], fun k => ?_, fun k => ?_, fun k => ?_, fun k => ?_,
    fun d hd => ?_, fun d _ _ hd => ?_⟩
  · rw [freeContext_slot]
    split <;> rfl
  · rw [freeContext_slot]
    split <;> rfl
  · rw [freeContext_slot, here, used, contextBit_some, contextBit_none]
    by_cases e : k = c.slot
    · rw [if_pos e, e]
      simp only [clearFull, loseContext, ofSlot, beq_self_eq_true, if_true]
      omega
    · rw [if_neg e]
      simp [clearFull, ofSlot, Ne.symm e]
  · rw [freeContext_slot, here, used, contextBit_some, contextBit_none]
    by_cases e : k = c.slot
    · rw [if_pos e, e]
      simp only [clearFull, loseContext, alarming, ofSlot, beq_self_eq_true, Bool.true_and]
      split
      · rename_i alarm
        have inAlarm : 0 < countContexts (alarming c.slot s) s :=
          countContexts_pos used (by simp [alarming, ofSlot, alarm])
        have counted : (s.slot c.slot).liveAlarms = countContexts (alarming c.slot s) s := alarms
        omega
      · rfl
    · rw [if_neg e]
      simp [clearFull, alarming, ofSlot, Ne.symm e]
  · rw [here] at hd
    cases hd
  · rw [here] at hd
    cases hd

/-- R46, R47: once its last context has ended, a slot can be replaced; its live counts, both 0, stay. -/
theorem dialoguesSound_replace {k : SlotIndex} {f : Slot → Slot} {x : Staging} (h : contextsSound s)
    (laws : ∀ j, j ≠ k → SlotLaw j (s.slot j).status (s.slot j).contextCount (waitingImage x))
    (law : SlotLaw k (f (s.slot k)).status (s.slot k).contextCount (waitingImage x))
    (counts : (f (s.slot k)).contextCount = (s.slot k).contextCount ∧ (f (s.slot k)).liveAlarms = (s.slot k).liveAlarms)
    (alone : ∀ i : ContextIndex, ∀ c ∈ s.context i, c.slot ≠ k) :
    dialoguesSound (({ s with staging := x }).modifySlot k f) := by
  obtain ⟨live, keys, counted⟩ := h
  generalize made : ({ s with staging := x } : State).modifySlot k f = t
  have here : t.slot k = f (s.slot k) := by rw [← made, State.modifySlot_slot_same]; rfl
  have other {j : SlotIndex} (e : j ≠ k) : t.slot j = s.slot j := by rw [← made, State.modifySlot_slot_ne e]; rfl
  have context (i : ContextIndex) : t.context i = s.context i := by rw [← made]; rfl
  have contexts : t.contexts = s.contexts := by rw [← made]; rfl
  have noneOf (which : Context → Bool) : countContexts (fun c => ofSlot k c && which c) s = 0 := by
    refine countContexts_eq_zero.2 fun i c hc => ?_
    simp [ofSlot, alone i c hc]
  refine ⟨⟨fun i c hc => ?_, fun i j c hc d hd => ?_, fun j => ?_⟩, fun j => ?_⟩
  · rw [context] at hc
    have e := alone i c hc
    exact contextSound_congr (live i c hc) (by rw [other e]) (by rw [other e]) (by rw [← made]; rfl)
  · rw [context] at hc hd
    exact keys i j c hc d hd
  · simp only [countsSound, countContexts_congr contexts]
    by_cases e : j = k
    · subst e
      obtain ⟨count, alarms⟩ := counted j
      rw [noneOf] at alarms
      rw [noneOf, here, counts.1, counts.2]
      exact ⟨count, alarms⟩
    · simp only [other e]
      exact counted j
  · rw [slotSound_iff, show t.staging = x by rw [← made]; rfl]
    by_cases e : j = k
    · subst e
      rw [here, counts.1]
      exact law
    · rw [other e]
      exact laws j e

/-- R79: an end keeps the laws of the dialogues, the completion of a drain included. -/
theorem dialoguesSound_endContext (h : dialoguesSound s) : dialoguesSound (endContext i r s).1 := by
  cases used : s.context i with
  | none =>
    simp only [endContext, used]
    exact h
  | some c =>
    have rewrites := rewrites_freeContext (r := r) h.1 used
    have law := (slotSound_iff c.slot s).1 (h.2 c.slot)
    by_cases last : ∃ old, (s.slot c.slot).status = .draining old ∧ (s.slot c.slot).contextCount - 1 = 0
    · obtain ⟨old, draining, zero⟩ := last
      rw [draining] at law
      obtain ⟨-, pos, ⟨img, k⟩, waits, valid, target⟩ := law
      have staging : s.staging = .pending img c.slot := by
        cases e : s.staging <;> simp_all [waitingImage]
      have count : ((freeContext i c r s).slot c.slot).contextCount = 0 := by
        rw [freeContext_slot, if_pos rfl]
        exact zero
      have freed := contextsSound_rewrites h.1 rewrites
      have ends : endContext i r s = drainIfDone c.slot (freeContext i c r s) := by simp only [endContext, used]
      rw [ends, drainIfDone_of_done (by rw [rewrites.status]; exact draining) count staging]
      refine dialoguesSound_replace (f := installSlot img) freed (fun j e => ?_) ⟨validate_installedImage valid, nofun⟩
        ⟨rfl, rfl⟩ (fun m d hd e => ?_)
      · have other := (slotSound_iff j s).1 (h.2 j)
        rw [rewrites.status]
        rw [staging] at other
        cases status : (s.slot j).status with
        | empty => exact nofun
        | active img => exact ⟨by rw [status] at other; exact other.1, nofun⟩
        | draining img =>
          rw [status] at other
          obtain ⟨-, -, w, isWaiting, -, isTarget⟩ := other
          cases isWaiting
          exact absurd isTarget.symm e
      · have counted := countContexts_pos (which := ofSlot c.slot) hd (by simp [ofSlot, e])
        have := (freed.2.2 c.slot).1
        omega
    · have goesOn : ∀ old, (s.slot c.slot).status = .draining old → (s.slot c.slot).contextCount - 1 ≠ 0 :=
        fun old draining zero => last ⟨old, draining, zero⟩
      rw [endContext_of_goesOn used goesOn]
      refine dialoguesSound_rewrites h rewrites rfl (fun k old draining => ?_)
      have pos := (slotSound_iff k s).1 (h.2 k)
      rw [draining] at pos
      rw [freeContext_slot]
      split
      · rename_i e
        subst e
        exact Nat.pos_of_ne_zero (goesOn old draining)
      · exact pos.2.1

theorem dialoguesSound_endNext {which : Context → Bool} {e : Ended} (h : dialoguesSound e.state) (i : ContextIndex) :
    dialoguesSound (endNext which r e i).state := by
  simp only [endNext]
  repeat' split
  · exact h
  · exact dialoguesSound_endContext h
  · exact h

/-- R81: so do several ends. -/
theorem dialoguesSound_endContexts (which : Context → Bool) (h : dialoguesSound s) :
    dialoguesSound (endContexts which r s).state := by
  have fold : ∀ (l : List ContextIndex) (e : Ended), dialoguesSound e.state →
      dialoguesSound (l.foldl (endNext which r) e).state := by
    intro l
    induction l with
    | nil => exact fun e h => h
    | cons i l ih => exact fun e h => ih _ (dialoguesSound_endNext h i)
  rw [endContexts]
  exact fold contextIndices ⟨s, 0, []⟩ h

end Ends

end Sys2Proof.Machine
end

section
/-! SUPPORT. Evaluation and expiry keep the laws of the dialogues (R44, R46, R50, R66, R68, R69, R77, R78, R123). -/

namespace Sys2Proof.Machine

open Sys2Proof.Safety

section Moves

variable {s : State} (h : dialoguesSound s)

include h

theorem dialoguesSound_offers (es : List EventBody) : dialoguesSound (offerAll es s) :=
  dialoguesSound_congr h (Remarked.of_slots (offerAll_slots es s)) (offerAll_contexts es s) (offerAll_tick es s)
    (by rw [offerAll_staging])

theorem dialoguesSound_offer (e : EventBody) : dialoguesSound (offer e s) := dialoguesSound_offers h [e]

theorem dialoguesSound_mark (k : SlotIndex) {f : Slot → Slot} (mark : IsMark f) : dialoguesSound (s.modifySlot k f) :=
  dialoguesSound_congr h (Remarked.slot k mark s) rfl rfl rfl

theorem dialoguesSound_countSlot (k : SlotIndex) (n : SlotCounter) : dialoguesSound (s.countSlot k n) :=
  dialoguesSound_mark h k fun _ => ⟨rfl, rfl, rfl, rfl⟩

/-- R46: an installed image has passed validation. -/
theorem fitsTogether_of_installed {k : SlotIndex} {img : Image} (image : (s.slot k).status.image = some img) :
    FitsTogether img := by
  have law := (slotSound_iff k s).1 (h.2 k)
  rw [← validate_eq_none]
  cases e : (s.slot k).status with
  | empty => simp [e, SlotStatus.image] at image
  | active old =>
    rw [e] at law image
    cases image
    exact law.1
  | draining old =>
    rw [e] at law image
    cases image
    exact law.1

theorem dialoguesSound_alarmEntry (k : SlotIndex) (a b : Byte) (before after : StateIndex) :
    dialoguesSound (alarmEntry k a b before after s).1 := by
  simp only [alarmEntry]
  split
  · exact h
  · exact dialoguesSound_mark h k fun _ => ⟨rfl, rfl, rfl, rfl⟩

end Moves

/-! ### A live context is written (R97, R100, R101, R117) -/

/-- What no frame changes in a context, before its move. -/
structure SameDialogue (c d : Context) : Prop where
  slot : d.slot = c.slot
  generation : d.generation = c.generation
  initiator : d.initiator = c.initiator
  responder : d.responder = c.responder

theorem SameDialogue.sameKey {c d x : Context} (same : SameDialogue c d) (h : sameKey d x) : sameKey c x := by
  simpa only [Safety.sameKey, same.slot, same.initiator, same.responder] using h

section Live

variable {i : ContextIndex} {img : Image} {c d : Context} {s : State} (h : dialoguesSound s)
  (used : s.context i = some c) (image : (s.slot c.slot).status.image = some img) (same : SameDialogue c d)

include h used image same

/-- R123: a deadline that the state's timeout reaches. -/
theorem contextSound_of_state (below : d.state.val < img.header.stateCount.val)
    (remains : (d.deadline - s.tick).toNat ≤ ((img.state d.state).timeout).toNat) : contextSound d s := by
  obtain ⟨generation, differ, initiator, responder, -⟩ := (contextSound_iff c s).1 (h.1.1 i c used)
  rw [contextSound_iff, same.slot, same.generation, same.initiator, same.responder]
  exact ⟨generation, differ, initiator, responder, img, image, below, remains⟩

omit image in
/-- R78: the record of a live context changes, and the live alarm count of its slot follows. -/
theorem dialoguesSound_write {live : Nat} (sound : contextSound d s)
    (alarms : live + contextBit (alarming c.slot s) (some c) =
      (s.slot c.slot).liveAlarms + contextBit (alarming c.slot s) (some d)) :
    dialoguesSound ((s.setContext i (some d)).modifySlot c.slot (fun x => { x with liveAlarms := live })) := by
  have here : ((s.setContext i (some d)).modifySlot c.slot (fun x => { x with liveAlarms := live })).context i = some d := by
    simp
  have slots (k : SlotIndex) :
      ((s.setContext i (some d)).modifySlot c.slot (fun x => { x with liveAlarms := live })).slot k =
        if k = c.slot then { s.slot k with liveAlarms := live } else s.slot k := by
    split <;> rename_i e
    · rw [e, State.modifySlot_slot_same, State.setContext_slot]
    · rw [State.modifySlot_slot_ne e, State.setContext_slot]
  refine dialoguesSound_rewrites h (i := i) ⟨rfl, fun j e => ?_, fun k => ?_, fun k => ?_, fun k => ?_, fun k => ?_,
    fun x hx => ?_, fun x j y hx e hy key => ?_⟩ rfl (fun k old draining => ?_)
  · rw [State.modifySlot_context, State.setContext_context_ne e]
  · rw [slots]
    split <;> rfl
  · rw [slots]
    split <;> rfl
  · rw [slots, here, used, contextBit_some, contextBit_some, ofSlot, ofSlot, same.slot]
    split <;> rfl
  · rw [slots, here, used]
    split <;> rename_i e
    · rw [e]
      exact alarms
    · simp [contextBit_some, alarming, ofSlot, same.slot, Ne.symm e]
  · rw [here] at hx
    cases hx
    exact sound
  · rw [here] at hx
    cases hx
    exact e (h.1.2.1 i j c used y hy (same.sameKey key)).symm
  · have law := (slotSound_iff k s).1 (h.2 k)
    rw [draining] at law
    rw [slots]
    split
    · exact law.2.1
    · exact law.2.1

/-- R97: the record is written and the context stays in its state. -/
theorem dialoguesSound_stay (state : d.state = c.state) (deadline : d.deadline = c.deadline) :
    dialoguesSound (s.setContext i (some d)) := by
  obtain ⟨-, -, -, -, img', image', below, remains⟩ := (contextSound_iff c s).1 (h.1.1 i c used)
  rw [image] at image'
  cases image'
  have bits : contextBit (alarming c.slot s) (some d) = contextBit (alarming c.slot s) (some c) := by
    simp [contextBit_some, alarming, ofSlot, same.slot, state]
  have written := dialoguesSound_write (live := (s.slot c.slot).liveAlarms) h used same
    (contextSound_of_state h used image same (by rwa [state]) (by rwa [deadline, state])) (by rw [bits])
  refine dialoguesSound_congr written (fun k => ?_) rfl rfl rfl
  by_cases e : k = c.slot
  · rw [e, State.modifySlot_slot_same]
    exact ⟨rfl, rfl, rfl, rfl⟩
  · rw [State.modifySlot_slot_ne e]
    exact ⟨rfl, rfl, rfl, rfl⟩

omit h used same in
theorem alarmState_of_image (t : StateIndex) : (s.slot c.slot).status.alarmState t = (img.state t).alarm := by
  simp [SlotStatus.alarmState, image]

/-- R100, R101, R117: a state of the program is entered with a fresh deadline. -/
theorem dialoguesSound_enterState (state : d.state = c.state) {t : StateIndex} (below : t.val < img.header.stateCount.val) :
    dialoguesSound (enterState i img d t s).1 := by
  have entered : SameDialogue c (armed img s.tick t d) := ⟨same.slot, same.generation, same.initiator, same.responder⟩
  have fresh : ((armed img s.tick t d).deadline - s.tick).toNat ≤ ((img.state t).timeout).toNat := by
    simp only [armed]
    bv_omega
  have counted : contextBit (alarming c.slot s) (some c) ≤ (s.slot c.slot).liveAlarms := by
    have counts : (s.slot c.slot).liveAlarms = countContexts (alarming c.slot s) s := (h.1.2.2 c.slot).2
    rw [counts, contextBit_some]
    split
    · exact countContexts_pos used ‹_›
    · exact Nat.zero_le _
  have alarms : moveAlarm (img.state c.state).alarm (img.state t).alarm (s.slot c.slot).liveAlarms +
      contextBit (alarming c.slot s) (some c) =
      (s.slot c.slot).liveAlarms + contextBit (alarming c.slot s) (some (armed img s.tick t d)) := by
    have atT := alarmState_of_image image t
    have atC := alarmState_of_image image c.state
    simp only [contextBit_some, alarming, ofSlot, armed, same.slot, beq_self_eq_true, Bool.true_and, atT, atC]
      at counted ⊢
    cases e : (img.state c.state).alarm <;> cases e' : (img.state t).alarm <;> simp [e, moveAlarm] at counted ⊢
    omega
  have written := dialoguesSound_write h used entered
    (contextSound_of_state h used image entered below fresh) alarms
  have same' : (s.setContext i (some (armed img s.tick t d))).modifySlot d.slot
      (fun x => { x with liveAlarms := moveAlarm (img.state d.state).alarm (img.state t).alarm x.liveAlarms }) =
      (s.setContext i (some (armed img s.tick t d))).modifySlot c.slot
        (fun x => { x with
          liveAlarms := moveAlarm (img.state c.state).alarm (img.state t).alarm (s.slot c.slot).liveAlarms }) := by
    rw [same.slot, state]
    exact State.modifySlot_congr rfl
  simp only [enterState, same']
  split
  · exact dialoguesSound_alarmEntry written ..
  · exact written

/-- R97, R100, R101: a move to a target of the program keeps the laws. -/
theorem dialoguesSound_applyMove (state : d.state = c.state) (deadline : d.deadline = c.deadline) {m : Option Target}
    (fits : ∀ g, m = some g → Fits img.header.stateCount.val g) : dialoguesSound (applyMove i img d m s).1 := by
  rcases m with _ | t | _
  · exact dialoguesSound_stay h used image same state deadline
  · exact dialoguesSound_enterState h used image same state (fits (.state t) rfl)
  · exact dialoguesSound_endContext h

end Live

/-! ### Creation (R66, R72) -/

theorem dialoguesSound_createContext {k : SlotIndex} {img : Image} {f : Frame} {t : StateIndex} {i : ContextIndex}
    {s : State} (h : dialoguesSound s) (active : (s.slot k).status = .active img) (nodes : f.admitted)
    (single : f.dest ≠ 255#8) (unknown : lookup k f.source f.dest s = none) (free : s.context i = none)
    (below : t.val < img.header.stateCount.val) : dialoguesSound (createContext k img f t i s).1 := by
  have image : (s.slot k).status.image = some img := by rw [active]; rfl
  have atT : (s.slot k).status.alarmState t = (img.state t).alarm := by simp [SlotStatus.alarmState, image]
  have sound : contextSound (newContext k img f t s) s := by
    rw [contextSound_iff]
    refine ⟨rfl, nodes.2, nodes.1, single, img, image, below, ?_⟩
    simp only [newContext]
    bv_omega
  have created : dialoguesSound ((s.setContext i (some (newContext k img f t s))).modifySlot k (fun x =>
      { x with
        contextCount := x.contextCount + 1
        liveAlarms := if (img.state t).alarm then x.liveAlarms + 1 else x.liveAlarms
        counters := raiseSlot .created x.counters })) := by
    generalize made : (s.setContext i (some (newContext k img f t s))).modifySlot k (fun x =>
      { x with
        contextCount := x.contextCount + 1
        liveAlarms := if (img.state t).alarm then x.liveAlarms + 1 else x.liveAlarms
        counters := raiseSlot .created x.counters }) = u
    have here : u.context i = some (newContext k img f t s) := by simp [← made]
    have slotK : u.slot k = { s.slot k with
        contextCount := (s.slot k).contextCount + 1
        liveAlarms := if (img.state t).alarm then (s.slot k).liveAlarms + 1 else (s.slot k).liveAlarms
        counters := raiseSlot .created (s.slot k).counters } := by
      simp [← made]
    have slotJ {j : SlotIndex} (e : j ≠ k) : u.slot j = s.slot j := by
      rw [← made, State.modifySlot_slot_ne e, State.setContext_slot]
    refine dialoguesSound_rewrites h (i := i) ⟨?_, fun j e => ?_, fun j => ?_, fun j => ?_, fun j => ?_, fun j => ?_,
      fun x hx => ?_, fun x j y hx _ hy key => ?_⟩ ?_ (fun j old draining => ?_)
    · rw [← made]
      rfl
    · rw [← made, State.modifySlot_context, State.setContext_context_ne e]
    · by_cases e : j = k
      · rw [e, slotK]
      · rw [slotJ e]
    · by_cases e : j = k
      · rw [e, slotK]
      · rw [slotJ e]
    · rw [here, free]
      by_cases e : j = k
      · rw [e, slotK]
        simp [contextBit, ofSlot, newContext]
      · rw [slotJ e]
        simp [contextBit, ofSlot, newContext, Ne.symm e]
    · rw [here, free]
      by_cases e : j = k
      · rw [e, slotK]
        simp only [contextBit_none, contextBit_some, alarming, ofSlot, newContext, beq_self_eq_true, Bool.true_and, atT]
        split <;> rfl
      · rw [slotJ e]
        simp [contextBit, alarming, ofSlot, newContext, Ne.symm e]
    · rw [here] at hx
      cases hx
      exact sound
    · rw [here] at hx
      cases hx
      have unmatched := (lookup_eq_none k f.source f.dest s).1 unknown j
      rw [hy] at unmatched
      exact absurd (show keyMatches k f.source f.dest y = true from key) (by simpa using unmatched)
    · rw [← made]
      rfl
    · have law := (slotSound_iff j s).1 (h.2 j)
      rw [draining] at law
      by_cases e : j = k
      · rw [e, slotK]
        exact Nat.succ_pos _
      · rw [slotJ e]
        exact law.2.1
  simp only [createContext]
  split <;> rename_i alarm <;> simp only [alarm, if_true, Bool.false_eq_true, if_false] at created ⊢
  · exact dialoguesSound_alarmEntry created ..
  · exact created

/-! ### Frames (R88 to R101) -/

theorem SameDialogue.takenRecord (f : Frame) (c : Context) : SameDialogue c (takenRecord f c) := by
  unfold Machine.takenRecord
  split <;> exact ⟨rfl, rfl, rfl, rfl⟩

theorem takenRecord_state (f : Frame) (c : Context) :
    (takenRecord f c).state = c.state ∧ (takenRecord f c).deadline = c.deadline := by
  unfold takenRecord
  split <;> exact ⟨rfl, rfl⟩

/-- R51, R58: the unexpected record moves within the program. -/
theorem fits_unexpected {img : Image} (h : FitsTogether img) {g : Target}
    (moves : img.header.unexpected.target.move? = some g) : Fits img.header.stateCount.val g := by
  refine h.2.1 g ?_
  cases e : img.header.unexpected.target with
  | stay => simp [e, UnexpectedTarget.move?] at moves
  | move g' =>
    rw [e] at moves
    cases moves
    rfl

/-- R53, R58: so does a transition. -/
theorem fits_firstPosition {img : Image} (h : FitsTogether img) {accepts : Transition → Bool} {t : Transition}
    (found : firstPosition img accepts = some t) : Fits img.header.stateCount.val t.target := by
  obtain ⟨p, filled, -⟩ := (firstPosition_eq_some img accepts t).1 found
  exact (h.2.2.2.1 p t filled).2.1

theorem dialoguesSound_evaluateLive {i : ContextIndex} {img : Image} {c : Context} {s : State} (f : Frame)
    (h : dialoguesSound s) (used : s.context i = some c) (image : (s.slot c.slot).status.image = some img) :
    dialoguesSound (evaluateLive i img c f s).state := by
  have fits := fitsTogether_of_installed h image
  have taken := SameDialogue.takenRecord f c
  obtain ⟨state, deadline⟩ := takenRecord_state f c
  have counted (n : SlotCounter) : ((s.countSlot c.slot n).slot c.slot).status.image = some img := by
    rw [State.countSlot, State.modifySlot_slot_same]
    exact image
  unfold evaluateLive
  repeat' split
  · exact dialoguesSound_offers (dialoguesSound_applyMove (d := { takenRecord f c with retryCount := 0 })
      (dialoguesSound_countSlot h _ _) ((State.countSlot_context ..).trans used) (counted _)
      ⟨taken.slot, taken.generation, taken.initiator, taken.responder⟩ state deadline
      (fun g => fits_unexpected fits)) _
  · rename_i found
    refine dialoguesSound_offers (dialoguesSound_applyMove h used image taken state deadline (fun g e => ?_)) _
    cases e
    exact fits_firstPosition fits found
  · exact dialoguesSound_offers (dialoguesSound_applyMove (dialoguesSound_countSlot h _ _)
      ((State.countSlot_context ..).trans used) (counted _) taken state deadline (fun g => fits_unexpected fits)) _

theorem dialoguesSound_anchorAttempt {k : SlotIndex} {img : Image} {f : Frame} {s : State} (h : dialoguesSound s)
    (active : (s.slot k).status = .active img) (nodes : f.admitted) (single : f.dest ≠ 255#8)
    (unknown : lookup k f.source f.dest s = none) : dialoguesSound (anchorAttempt k img f s).state := by
  have fits := fitsTogether_of_installed (k := k) h (by rw [active]; rfl)
  unfold anchorAttempt takeAnchor
  repeat' split
  · exact dialoguesSound_offers h _
  · rename_i found _ st target _ i free
    have below := fits_firstPosition fits found
    rw [target] at below
    exact dialoguesSound_offers
      (dialoguesSound_createContext h active nodes single unknown ((freeIndex_eq_some s _).1 free).1 below) _
  · have counted := dialoguesSound_countSlot h k .overflowRefusals
    simp only [refuseAnchor]
    split
    · exact counted
    · exact dialoguesSound_offer (dialoguesSound_mark (f := fun x => { x with fullReported := true }) counted k
        fun _ => ⟨rfl, rfl, rfl, rfl⟩) _
  · exact dialoguesSound_countSlot h _ _

/-- R90: a frame keeps the laws of the dialogues. -/
theorem dialoguesSound_evaluate {k : SlotIndex} {img : Image} {draining : Bool} {f : Frame} {s : State}
    (h : dialoguesSound s) (nodes : f.admitted) (single : f.dest ≠ 255#8)
    (installed : (s.slot k).status = if draining then .draining img else .active img) :
    dialoguesSound (evaluateSound k img draining f s).state := by
  have image : (s.slot k).status.image = some img := by
    rw [installed]
    split <;> rfl
  unfold evaluateSound
  repeat' split
  · rename_i found _ c used
    have matched := ((lookup_eq_some ..).1 found).1
    rw [used] at matched
    have slot : c.slot = k := by
      simp only [Option.any_some, keyMatches, Bool.and_eq_true, beq_iff_eq] at matched
      exact matched.1
    exact dialoguesSound_evaluateLive f h used (by rwa [slot])
  · exact dialoguesSound_countSlot h _ _
  · exact dialoguesSound_countSlot h _ _
  · rename_i unknown undrained
    exact dialoguesSound_anchorAttempt h (by simpa [undrained] using installed) nodes single unknown

/-! ### Expiry (R114 to R120) -/

theorem dialoguesSound_expireContext {i : ContextIndex} {img : Image} {c : Context} {s : State} (h : dialoguesSound s)
    (used : s.context i = some c) (image : (s.slot c.slot).status.image = some img) :
    dialoguesSound (expireContext i img c s) := by
  have fits := fitsTogether_of_installed h image
  obtain ⟨-, -, -, -, img', image', below, -⟩ := (contextSound_iff c s).1 (h.1.1 i c used)
  rw [image] at image'
  cases image'
  simp only [expireContext]
  split
  · exact dialoguesSound_offers (dialoguesSound_endContext h) _
  · rename_i t target
    have targetFits := (fits.2.2.1 c.state below).2
    rw [target] at targetFits
    exact dialoguesSound_offers
      (dialoguesSound_enterState (d := { c with retryCount := 0 }) h used image ⟨rfl, rfl, rfl, rfl⟩ rfl targetFits) _

end Sys2Proof.Machine
end

section
/-! SUPPORT. Faults, installs, erasures, the discard of the staging buffer and the clock keep the laws of the dialogues;
with the statement. -/

namespace Sys2Proof.Machine

open Sys2Proof.Safety

/-! ### Ends of several contexts, at one slot and at the staging buffer -/

section Ends

variable (which : Context → Bool) (r : EndReason)

/-- R79: nothing comes to wait, and an OPEN buffer stays OPEN. -/
theorem endContext_waiting (i : ContextIndex) (s : State) :
    waitingImage (endContext i r s).1.staging = waitingImage s.staging ∨
      waitingImage (endContext i r s).1.staging = none := by
  simp only [endContext, drainIfDone, completeDrain]
  repeat' split
  all_goals first | exact Or.inl rfl | exact Or.inr rfl

theorem endContexts_waiting (s : State) :
    waitingImage (endContexts which r s).state.staging = waitingImage s.staging ∨
      waitingImage (endContexts which r s).state.staging = none := by
  have next (e : Ended) (i : ContextIndex) : waitingImage (endNext which r e i).state.staging = waitingImage e.state.staging ∨
      waitingImage (endNext which r e i).state.staging = none := by
    simp only [endNext]
    repeat' split
    · exact Or.inl rfl
    · exact endContext_waiting r i _
    · exact Or.inl rfl
  have fold : ∀ (l : List ContextIndex) (e : Ended),
      waitingImage (l.foldl (endNext which r) e).state.staging = waitingImage e.state.staging ∨
        waitingImage (l.foldl (endNext which r) e).state.staging = none := by
    intro l
    induction l with
    | nil => exact fun e => Or.inl rfl
    | cons i l ih =>
      intro e
      rcases ih (endNext which r e i) with same | gone
      · rcases next e i with same' | gone'
        · exact Or.inl (same.trans same')
        · exact Or.inr (same.trans gone')
      · exact Or.inr gone
  rw [endContexts]
  exact fold contextIndices ⟨s, 0, []⟩

/-- R81: a slot whose contexts have all ended has none. -/
theorem endContexts_alone (k : SlotIndex) (s : State) :
    ∀ i : ContextIndex, ∀ c ∈ (endContexts (ofSlot k) r s).state.context i, c.slot ≠ k := by
  intro i c hc
  rw [endContexts_context, Option.mem_def, Option.filter_eq_some_iff] at hc
  simpa [ofSlot] using hc.2

end Ends

section Programs

variable {s : State} (h : dialoguesSound s)

include h

theorem not_target_of_active {k : SlotIndex} {img : Image} (active : (s.slot k).status = .active img) :
    ∀ w ∈ waitingImage s.staging, w.2 ≠ k := by
  have law := (slotSound_iff k s).1 (h.2 k)
  rw [active] at law
  exact law.2

/-- R47: a slot without contexts becomes EMPTY. -/
theorem dialoguesSound_empty {k : SlotIndex} (target : ∀ w ∈ waitingImage s.staging, w.2 ≠ k)
    (alone : ∀ i : ContextIndex, ∀ c ∈ s.context i, c.slot ≠ k) : dialoguesSound (s.modifySlot k emptySlot) :=
  dialoguesSound_replace (f := emptySlot) (x := s.staging) h.1 (fun j _ => (slotSound_iff j s).1 (h.2 j)) target ⟨rfl, rfl⟩
    alone

theorem dialoguesSound_removeProgram (k : SlotIndex) (r : EndReason) : dialoguesSound (removeProgram k r s).state := by
  have ended := dialoguesSound_endContexts (r := r) (ofSlot k) h
  have waiting := endContexts_waiting (ofSlot k) r s
  have alone := endContexts_alone r k s
  simp only [removeProgram]
  generalize endContexts (ofSlot k) r s = e at ended waiting alone
  split
  · rename_i active
    refine dialoguesSound_empty ended (fun w waits => ?_) alone
    rcases waiting with same | gone
    · rw [same] at waits
      exact not_target_of_active h active w waits
    · rw [gone] at waits
      cases waits
  · exact ended

theorem dialoguesSound_setEntry (i : EntryIndex) (e : MatchEntry) : dialoguesSound (s.setEntry i e) :=
  dialoguesSound_congr h (Remarked.of_slots rfl) rfl rfl rfl

theorem dialoguesSound_mode (m : Mode) : dialoguesSound { s with mode := m } :=
  dialoguesSound_congr h (Remarked.of_slots rfl) rfl rfl rfl

theorem dialoguesSound_latch (l : Option Location) : dialoguesSound { s with faultLatch := l } :=
  dialoguesSound_congr h (Remarked.of_slots rfl) rfl rfl rfl

theorem dialoguesSound_changeToBypass (r : EndReason) : dialoguesSound (changeToBypass r s).state := by
  rw [changeToBypass]
  exact dialoguesSound_endContexts _ (dialoguesSound_mode h .bypass)

theorem dialoguesSound_removeFaulty (l : Location) : dialoguesSound (removeFaulty l s).state := by
  cases l with
  | matchEntry i => exact dialoguesSound_setEntry h i .cleared
  | program k => exact dialoguesSound_removeProgram h k .fault
  | context i => exact dialoguesSound_endNext (e := ⟨s, 0, []⟩) h i

theorem dialoguesSound_faultToBypass (e : Ended) : dialoguesSound (faultToBypass e s) := by
  unfold faultToBypass
  split
  · exact dialoguesSound_offers h _
  · exact dialoguesSound_offer (dialoguesSound_offers (dialoguesSound_changeToBypass h .fault) _) _

/-- R35, R36, R38: an integrity fault. -/
theorem dialoguesSound_fault (l : Location) : dialoguesSound (integrityFault l s) := by
  rw [integrityFault, latchFault_eq]
  exact dialoguesSound_faultToBypass (dialoguesSound_offer (dialoguesSound_latch (dialoguesSound_removeFaulty h l) _) _) _

theorem dialoguesSound_changeMode (m : Mode) : dialoguesSound (changeMode m s).1 := by
  simp only [changeMode]
  repeat' split
  · exact h
  · dsimp only
    exact dialoguesSound_offer (dialoguesSound_offers (dialoguesSound_changeToBypass h .mode) _) _
  · exact dialoguesSound_offer (dialoguesSound_mode h m) _

/-- R180: an ERASE_SLOT that is carried out. -/
theorem dialoguesSound_eraseActive (k : SlotIndex) : dialoguesSound (eraseActive k s).state := by
  simp only [eraseActive]
  exact dialoguesSound_offers (dialoguesSound_mark (f := clearSlotCounters) (dialoguesSound_removeProgram h k .erased) k
    fun _ => ⟨rfl, rfl, rfl, rfl⟩) _

/-- R46, R177: an install at once. -/
theorem dialoguesSound_commitNow {k : SlotIndex} {img opened : Image} (opens : s.staging = .opened opened)
    (valid : validate img = none) : dialoguesSound (commitNow k img s).state := by
  have ended := dialoguesSound_endContexts (r := .superseded) (ofSlot k) h
  have alone := endContexts_alone .superseded k s
  have waiting : waitingImage (endContexts (ofSlot k) .superseded s).state.staging = none := by
    rcases endContexts_waiting (ofSlot k) .superseded s with same | gone
    · rw [same, opens]
      rfl
    · exact gone
  simp only [commitNow]
  generalize endContexts (ofSlot k) .superseded s = e at ended alone waiting
  have told : ∃ u, (if 0 < e.count then offer (supersededEvent k e.count) (offerAll e.events e.state)
      else offerAll e.events e.state) = u ∧ dialoguesSound u ∧ (∀ i : ContextIndex, ∀ c ∈ u.context i, c.slot ≠ k) ∧
      waitingImage u.staging = none := by
    refine ⟨_, rfl, ?_⟩
    split
    · refine ⟨dialoguesSound_offer (dialoguesSound_offers ended _) _, fun i c => ?_, by simpa using waiting⟩
      rw [offer_context, offerAll_context]
      exact alone i c
    · refine ⟨dialoguesSound_offers ended _, fun i c => ?_, by simpa using waiting⟩
      rw [offerAll_context]
      exact alone i c
  obtain ⟨u, same, sound, aloneU, waitingU⟩ := told
  rw [same]
  refine dialoguesSound_replace (f := installSlot img) (x := .empty) sound.1 (fun j _ => ?_)
    ⟨validate_installedImage valid, nofun⟩ ⟨rfl, rfl⟩ aloneU
  have law := (slotSound_iff j u).1 (sound.2 j)
  rwa [waitingU] at law

/-- The state of a slot changes, its image and its other items stay, and another image waits or none. -/
theorem dialoguesSound_status {k : SlotIndex} {f : Slot → Slot} {x : Staging}
    (image : (f (s.slot k)).status.image = (s.slot k).status.image)
    (rest : (f (s.slot k)).generation = (s.slot k).generation ∧ (f (s.slot k)).contextCount = (s.slot k).contextCount ∧
      (f (s.slot k)).liveAlarms = (s.slot k).liveAlarms)
    (law : SlotLaw k (f (s.slot k)).status (s.slot k).contextCount (waitingImage x))
    (laws : ∀ j, j ≠ k → SlotLaw j (s.slot j).status (s.slot j).contextCount (waitingImage x)) :
    dialoguesSound (({ s with staging := x }).modifySlot k f) := by
  generalize made : ({ s with staging := x } : State).modifySlot k f = t
  have here : t.slot k = f (s.slot k) := by rw [← made, State.modifySlot_slot_same]; rfl
  have other {j : SlotIndex} (e : j ≠ k) : t.slot j = s.slot j := by rw [← made, State.modifySlot_slot_ne e]; rfl
  obtain ⟨generation, count, alarms⟩ := rest
  refine ⟨contextsSound_congr h.1 (by rw [← made]; rfl) (by rw [← made]; rfl) (fun j => ?_) (fun j => ?_) (fun j => ?_)
    (fun j => ?_), fun j => ?_⟩
  · by_cases e : j = k
    · rw [e, here, image]
    · rw [other e]
  · by_cases e : j = k
    · rw [e, here, generation]
    · rw [other e]
  · by_cases e : j = k
    · rw [e, here, count]
    · rw [other e]
  · by_cases e : j = k
    · rw [e, here, alarms]
    · rw [other e]
  · rw [slotSound_iff, show t.staging = x by rw [← made]; rfl]
    by_cases e : j = k
    · rw [e, here, count]
      exact law
    · rw [other e]
      exact laws j e

/-- R44, R178: a drain begins. -/
theorem dialoguesSound_commitDrain {k : SlotIndex} {img old opened : Image} (opens : s.staging = .opened opened)
    (valid : validate img = none) (active : (s.slot k).status = .active old) (live : (s.slot k).contextCount ≠ 0) :
    dialoguesSound (commitDrain k img s).state := by
  have drains : drainSlot (s.slot k) = { s.slot k with status := .draining old } := by simp only [drainSlot, active]
  have law (j : SlotIndex) := (slotSound_iff j s).1 (h.2 j)
  simp only [commitDrain]
  refine dialoguesSound_status h (by rw [drains, active]; rfl) (by rw [drains]; exact ⟨rfl, rfl, rfl⟩) ?_ (fun j e => ?_)
  · have valid' := law k
    rw [active] at valid'
    rw [drains]
    exact ⟨valid'.1, Nat.pos_of_ne_zero live, ⟨img, k⟩, rfl, valid, rfl⟩
  · have lawJ := law j
    rw [opens] at lawJ
    cases status : (s.slot j).status with
    | empty =>
      intro w waits
      cases waits
      exact Ne.symm e
    | active own =>
      rw [status] at lawJ
      refine ⟨lawJ.1, fun w waits => ?_⟩
      cases waits
      exact Ne.symm e
    | draining own =>
      rw [status] at lawJ
      obtain ⟨-, -, w, waits, -⟩ := lawJ
      cases waits

theorem dialoguesSound_commitImage (drain : Bool) {k : SlotIndex} {img : Image} (opens : s.staging = .opened img)
    (valid : validate img = none) : dialoguesSound (commitImage drain k img s).state := by
  unfold commitImage
  repeat' split
  · exact dialoguesSound_commitNow h opens valid
  · exact dialoguesSound_commitDrain h opens valid ‹_› ‹_›
  · exact dialoguesSound_commitNow h opens valid

/-- R48, R166, R179: the staging buffer is emptied, and a DRAINING target returns to ACTIVE. -/
theorem dialoguesSound_discardStaging : dialoguesSound (discardStaging s) := by
  have law (j : SlotIndex) := (slotSound_iff j s).1 (h.2 j)
  unfold discardStaging
  split
  · rename_i img k waits
    have others (j : SlotIndex) (e : j ≠ k) : SlotLaw j (s.slot j).status (s.slot j).contextCount (waitingImage .empty) := by
      have lawJ := law j
      rw [waits] at lawJ
      cases status : (s.slot j).status with
      | empty => exact nofun
      | active own =>
        rw [status] at lawJ
        exact ⟨lawJ.1, nofun⟩
      | draining own =>
        rw [status] at lawJ
        obtain ⟨-, -, w, isWaiting, -, target⟩ := lawJ
        cases isWaiting
        exact absurd target.symm e
    have lawK := law k
    rw [waits] at lawK
    cases status : (s.slot k).status with
    | empty =>
      rw [status] at lawK
      exact absurd rfl (lawK _ rfl)
    | active old =>
      rw [status] at lawK
      exact absurd rfl (lawK.2 _ rfl)
    | draining old =>
      rw [status] at lawK
      have resumed : resumeSlot (s.slot k) = { s.slot k with status := .active old } := by simp only [resumeSlot, status]
      exact dialoguesSound_status h (by rw [resumed, status]; rfl) (by rw [resumed]; exact ⟨rfl, rfl, rfl⟩)
        (by rw [resumed]; exact ⟨lawK.1, nofun⟩) others
  · rename_i img opens
    exact dialoguesSound_congr h (Remarked.of_slots rfl) rfl rfl (by rw [opens]; rfl)
  · exact h

/-- R44: a slot that drains has a context in use. -/
theorem drainDone_eq_none : drainDone s = none := by
  unfold drainDone
  repeat' split
  all_goals try rfl
  rename_i k waits _ old draining zero
  have law := (slotSound_iff k s).1 (h.2 k)
  rw [draining] at law
  exact absurd zero (Nat.ne_of_gt law.2.1)

end Programs

/-! ### The clock (R112, R116, R123) -/

theorem enterState_context (i : ContextIndex) (img : Image) (c : Context) (t : StateIndex) (s : State) (j : ContextIndex) :
    (enterState i img c t s).1.context j = if j = i then some (armed img s.tick t c) else s.context j := by
  have written : ((s.setContext i (some (armed img s.tick t c)))).context j =
      if j = i then some (armed img s.tick t c) else s.context j := by
    split
    · rename_i e
      rw [e, State.setContext_context_same]
    · exact State.setContext_context_ne ‹_› _ _
  rw [← written]
  simp only [enterState, alarmEntry]
  repeat' split
  all_goals rfl

/-- R116: an expiry moves the context's own deadline on, and no other. -/
theorem due_expireIfDue {i : ContextIndex} {s : State} (h : dialoguesSound s) :
    due i (expireIfDue i none s) = false ∧ ∀ j, due j s = false → due j (expireIfDue i none s) = false := by
  cases isDue : due i s with
  | false =>
    have same : expireIfDue i none s = s := by rw [expireIfDue, isDue]; rfl
    rw [same]
    exact ⟨isDue, fun _ => id⟩
  | true =>
    obtain ⟨c, used, now⟩ : ∃ c, s.context i = some c ∧ c.deadline = s.tick := by
      simpa [due, Option.any_eq_true] using isDue
    obtain ⟨-, -, -, -, img, image, below, -⟩ := (contextSound_iff c s).1 (h.1.1 i c used)
    have fits := fitsTogether_of_installed h image
    have taken : expireIfDue i none s = expireContext i img c s := by
      simp [expireIfDue, isDue, takeExpiry, used, damaged, image]
    have tick : (expireContext i img c s).tick = s.tick := (WatchWork.expiresContext i img c s).tables.tick_eq
    have contexts (j : ContextIndex) : (expireContext i img c s).context j =
        if j = i then
          match (img.state c.state).target with
          | .finish => none
          | .state t => some (armed img s.tick t { c with retryCount := 0 })
        else s.context j := by
      simp only [expireContext]
      cases (img.state c.state).target with
      | finish => rw [offerAll_context, endContext_context]
      | state t =>
        rw [offerAll_context, enterState_context]
    rw [taken]
    refine ⟨?_, fun j notDue => ?_⟩
    · simp only [due, contexts, if_true, tick]
      cases target : (img.state c.state).target with
      | finish => rfl
      | state t =>
        have targetFits := (fits.2.2.1 c.state below).2
        rw [target] at targetFits
        have timeout := (fits.2.2.1 t targetFits).1
        simp only [Option.any_some, armed, beq_eq_false_iff_ne]
        bv_omega
    · by_cases e : j = i
      · rw [e, isDue] at notDue
        cases notDue
      · simpa only [due, contexts, if_neg e, tick] using notDue

/-- R116: once the expiries are taken, no context is due. -/
theorem due_takeDue {s : State} (h : dialoguesSound s) (j : ContextIndex) : due j (takeDue s) = false := by
  have kept (i : ContextIndex) {s : State} (h : dialoguesSound s) : dialoguesSound (expireIfDue i none s) := by
    unfold expireIfDue takeExpiry
    repeat' split
    · exact h
    · exact dialoguesSound_fault h _
    · exact h
    · exact dialoguesSound_fault h _
    · exact dialoguesSound_expireContext h ‹_› ‹_›
    · exact h
  have fold : ∀ (l : List ContextIndex) (s : State), dialoguesSound s → (due j s = false ∨ j ∈ l) →
      due j (l.foldl (fun s i => expireIfDue i none s) s) = false := by
    intro l
    induction l with
    | nil => exact fun s _ settled => settled.resolve_right (by simp)
    | cons i l ih =>
      intro s h settled
      obtain ⟨own, others⟩ := due_expireIfDue (i := i) h
      refine ih _ (kept i h) ?_
      rcases settled with settled | here
      · exact Or.inl (others j settled)
      · rcases List.mem_cons.1 here with e | later
        · exact Or.inl (e ▸ own)
        · exact Or.inr later
  exact fold contextIndices s h (Or.inr (List.mem_finRange j))

/-- R123: with nothing due, one tick more leaves every deadline within its state's timeout. -/
theorem dialoguesSound_tick {s : State} (h : dialoguesSound s) (settled : ∀ j, due j s = false) :
    dialoguesSound { s with tick := s.tick + 1 } := by
  obtain ⟨⟨live, keys, counts⟩, laws⟩ := h
  refine ⟨⟨fun i c used => ?_, keys, counts⟩, laws⟩
  obtain ⟨h1, h2, h3, h4, img, image, below, remains⟩ := (contextSound_iff c s).1 (live i c used)
  have notDue : c.deadline ≠ s.tick := by
    have used' : s.context i = some c := used
    simpa [due, used'] using settled i
  refine (contextSound_iff c _).2 ⟨h1, h2, h3, h4, img, image, below, ?_⟩
  dsimp only
  bv_omega

/-! ### The statement -/

theorem dialoguesSound_reset (held : Bool) (cause : ResetCause) (s : State) : dialoguesSound (resetState held cause s) := by
  have context (i : ContextIndex) : (resetState held cause s).context i = none := by
    have contexts : (resetState held cause s).contexts = Vector.replicate 96 none := rfl
    simp [State.context, contexts]
  have slot (k : SlotIndex) : (resetState held cause s).slot k = .reset := by
    have slots : (resetState held cause s).slots = Vector.replicate 8 .reset := rfl
    simp [State.slot, slots]
  have noneOf (which : Context → Bool) : countContexts which (resetState held cause s) = 0 :=
    countContexts_eq_zero.2 fun i c used => by simp [context i] at used
  refine ⟨⟨fun i c used => ?_, fun i j c used => ?_, fun k => ?_⟩, fun k => ?_⟩
  · simp [context i] at used
  · simp [context i] at used
  · simp only [countsSound, slot, noneOf]
    exact ⟨rfl, rfl⟩
  · rw [slotSound_iff, slot]
    exact nofun

theorem dialoguesSound_hits {s : State} (h : dialoguesSound s) : dialoguesSound s.clearHits := by
  have entries : s.clearHits = { s with entries := s.clearHits.entries } := rfl
  generalize s.clearHits.entries = cleared at entries
  rw [entries]
  exact dialoguesSound_congr h (Remarked.of_slots rfl) rfl rfl rfl

theorem dialoguesSound_beside {s t : State} (h : dialoguesSound s) (b : Beside s t) : dialoguesSound t := by
  refine dialoguesSound_congr h (Remarked.of_slots b.slots) b.contexts b.tick ?_
  rcases b.staging with same | ⟨opens, emptied⟩
  · rw [same]
  · rw [emptied]
    cases e : s.staging with
    | empty => rfl
    | opened img => rfl
    | pending img k => simp [stagingOpen, e] at opens

theorem dialoguesSound_law : TableLaw dialoguesSound where
  beside h b := dialoguesSound_beside h b
  remark _ _ h slots := dialoguesSound_congr h slots rfl rfl rfl
  reset := dialoguesSound_reset
  fault l _ h := dialoguesSound_fault h l
  entry i e _ h _ := dialoguesSound_setEntry h i e
  hits _ h := dialoguesSound_hits h
  evaluate _ _ _ _ _ h _ nodes single installed := dialoguesSound_evaluate h nodes single installed
  expire _ _ _ _ h used image := dialoguesSound_expireContext h used image
  mode m _ h _ := dialoguesSound_changeMode h m
  unlatch _ h := dialoguesSound_latch h none
  opens img s h idle := dialoguesSound_congr h (Remarked.of_slots rfl) rfl rfl (by
    cases e : s.staging with
    | empty => rfl
    | opened old => rfl
    | pending old k => exact absurd e (idle old k))
  discard _ h := dialoguesSound_discardStaging h
  commit drain _ _ _ h opens valid := dialoguesSound_commitImage h drain opens valid
  erase k _ _ h _ := dialoguesSound_eraseActive h k
  finish _ _ _ h := dialoguesSound_endContext h
  finishAll _ _ h := dialoguesSound_endContexts _ h
  drain _ _ h done := by
    rw [drainDone_eq_none h] at done
    cases done
  time s h due := by
    have settled := due_takeDue h
    generalize takeDue s = u at due settled
    exact dialoguesSound_tick due settled

/-- Settles O57: the laws of the dialogues survive every happening. -/
theorem everyStepKeepsTheDialoguesSound : Obligations.EveryStepKeepsTheDialoguesSound :=
  fun _ _ h taken => dialoguesSound_law.kept.step h taken

end Sys2Proof.Machine
end

section
/-! SUPPORT. Power-on and the RESET line (R170), frames as they are built and read back (R1, R5, R22), and the happenings
at a port (R4, R6 to R11); with the statements. -/

namespace Sys2Proof.Machine

open Sys2Proof.Safety

/-- Settles O1, by the definition of a step. -/
theorem stepRunsTheFrontCommand : Obligations.StepRunsTheFrontCommand := fun _ _ _ => rfl

/-! ### Power-on and the RESET line -/

theorem reset_port (p : Port) : State.reset.port p = PortState.reset := by cases p <;> rfl

theorem reset_entry (i : EntryIndex) : State.reset.entry i = MatchEntry.cleared := by
  have entries : State.reset.entries = Vector.replicate 48 .cleared := rfl
  simp [State.entry, entries]

theorem reset_slot (k : SlotIndex) : State.reset.slot k = Slot.reset := by
  have slots : State.reset.slots = Vector.replicate 8 .reset := rfl
  simp [State.slot, slots]

theorem reset_context (i : ContextIndex) : State.reset.context i = none := by
  have contexts : State.reset.contexts = Vector.replicate 96 none := rfl
  simp [State.context, contexts]

/-- Settles O2: item by item. -/
theorem resetHoldsThePowerOnValues : Obligations.ResetHoldsThePowerOnValues :=
  ⟨reset_port, reset_entry, rfl, rfl, rfl, reset_slot, reset_context, rfl, rfl, rfl, rfl, rfl, rfl, rfl, rfl, rfl, rfl, rfl,
    rfl, rfl, rfl⟩

/-- R153: a request row is the request happening, whose damage only the rows that read a protected item can meet. -/
theorem exec_requestInstr_state (c : RequestCode) (x : Call) (d : Damage) (s : State) :
    exec (requestInstr c x d) s = .next (requestCommand c x d s) ∨
      exec (requestInstr c x d) s = .next (requestCommand c x none s) := by
  cases c
  case readMatch | readSlot | readTransition | readContext | findContexts | endContext => exact Or.inl rfl
  all_goals exact Or.inr rfl

/-- R4: no request arrives at a DOWN port. -/
theorem requestCommand_of_down {c : RequestCode} {x : Call} {d : Damage} {s : State} (down : (s.port x.port).up = false) :
    requestCommand c x d s = s := by simp [requestCommand, canArrive, down]

/-- Settles O3: the loads by their definitions, and the line held by what a DOWN port refuses. -/
theorem resetsLoadAndHoldThePart : Obligations.ResetsLoadAndHoldThePart := by
  refine ⟨fun s => ⟨rfl, rfl, fun held => ?_, fun free => ?_⟩, fun s p c x bytes d held down => ?_⟩
  · change Host.Outcome.next _ = _
    rw [if_pos held]
    rfl
  · change Host.Outcome.next _ = _
    rw [if_neg (by simp [free])]
  · have next {t u : State} (h : t = u) : (.next t : Host.Outcome State Fault Refusal) = .next u := by rw [h]
    refine ⟨next (if_pos (by simp [held])), next (if_neg (by simp [down])), next (if_neg (by simp [down])),
      next (if_neg (by simp [down])), next (if_pos held), ?_⟩
    rcases exec_requestInstr_state c x d s with e | e
    · rw [e, requestCommand_of_down (down _)]
    · rw [e, requestCommand_of_down (down _)]

/-! ### Frames (R1, R5) -/

/-- R1: the bytes of a frame before its check code. -/
def frameBody (dest source : Byte) (kind : BitVec 6) (sequence : BitVec 4) (payload : List Byte) : List Byte :=
  [dest, source, kind.setWidth 8, sequence.setWidth 8, BitVec.ofNat 8 payload.length] ++ payload

theorem buildFrame_eq (dest source : Byte) (kind : BitVec 6) (sequence : BitVec 4) (payload : List Byte) :
    buildFrame dest source kind sequence payload =
      frameBody dest source kind sequence payload ++ bytes16 (crc (frameBody dest source kind sequence payload)) := rfl

theorem bytes16_length (x : Word16) : (bytes16 x).length = 2 := rfl

/-- R1, R5: a frame with fields in their ranges passes the ingress checks. -/
theorem ingress_buildFrame {dest source : Byte} (kind : BitVec 6) (sequence : BitVec 4) {payload : List Byte}
    (short : payload.length ≤ 48) (node : source ≠ 255#8) (other : source ≠ dest) :
    ingress (buildFrame dest source kind sequence payload) =
      .good ⟨dest, source, kind, sequence, payload, buildFrame dest source kind sequence payload⟩ := by
  have bodyLength : (frameBody dest source kind sequence payload).length = 5 + payload.length := by
    simp [frameBody]
    omega
  have length : (buildFrame dest source kind sequence payload).length = 7 + payload.length := by
    rw [buildFrame_eq, List.length_append, bodyLength, bytes16_length]
    omega
  have split : (buildFrame dest source kind sequence payload).length - 2 =
      (frameBody dest source kind sequence payload).length := by omega
  have code : bytes16 (crc ((buildFrame dest source kind sequence payload).take
      ((buildFrame dest source kind sequence payload).length - 2))) =
      (buildFrame dest source kind sequence payload).drop ((buildFrame dest source kind sequence payload).length - 2) := by
    rw [split, buildFrame_eq, List.take_left, List.drop_left]
  have count : (BitVec.ofNat 8 payload.length).toNat = payload.length := by
    rw [BitVec.toNat_ofNat]
    omega
  have kindRange := kind.isLt
  have sequenceRange := sequence.isLt
  refine (ingress_header (rest := payload ++ bytes16 (crc (frameBody dest source kind sequence payload)))
    (by omega) (by omega) (buildFrame_eq _ _ _ _ _) code).trans ?_
  rw [if_neg]
  · have k : (kind.setWidth 8).setWidth 6 = kind := by simp
    have q : (sequence.setWidth 8).setWidth 4 = sequence := by simp
    rw [k, q, count, List.take_left]
  · rw [length, count]
    simp only [BitVec.toNat_setWidth, node, other, or_false]
    omega

/-- Settles O5. -/
theorem builtFramesAreReadBack : Obligations.BuiltFramesAreReadBack :=
  fun _ _ kind sequence _ short node other => ingress_buildFrame kind sequence short node other

/-- R5, R15: a good frame keeps its bytes as received. -/
theorem raw_of_ingress {bytes : List Byte} {f : Frame} (h : ingress bytes = .good f) : f.raw = bytes := by
  unfold ingress at h
  repeat' split at h
  all_goals cases h
  rfl

/-! ### Reports and records (R3, R22) -/

theorem bytes16_eq_ofNat (x : Word16) : bytes16 x = [BitVec.ofNat 8 (x.toNat / 256), BitVec.ofNat 8 x.toNat] := by
  have range := x.isLt
  rw [bytes16_eq_pair]
  apply BitVec.eq_of_toNat_eq
  rw [BitVec.toNat_append, BitVec.toNat_ofNat, BitVec.toNat_ofNat, Nat.shiftLeft_eq, Nat.mul_comm,
    ← Nat.two_pow_add_eq_or_of_lt]
  · omega
  · omega

/-- R22: the level above the slot's number. -/
theorem levelSlotByte_eq (level : BitVec 2) (slot : Option SlotIndex) :
    levelSlotByte level slot =
      BitVec.ofNat 8 (64 * level.toNat + (match slot with
        | some k => k.val
        | none => 15)) := by
  cases slot with
  | none =>
    revert level
    decide
  | some k =>
    revert level k
    decide

theorem recordBytes_eq (serial : Word16) (e : EventBody) :
    recordBytes serial e =
      [BitVec.ofNat 8 (serial.toNat / 256), BitVec.ofNat 8 serial.toNat, classByte e.cls, e.code,
        BitVec.ofNat 8 (64 * e.level.toNat + (match e.slot with
          | some k => k.val
          | none => 15)),
        e.initiator.getD 255#8, e.responder.getD 255#8, (e.fromState.map finByte).getD 0xFF#8,
        (e.toState.map targetByte).getD 0xFF#8, e.info] := by
  simp only [recordBytes, bytes16_eq_ofNat, levelSlotByte_eq, List.cons_append, List.nil_append]
  rfl

/-- Settles O13. -/
theorem reportsAndRecordsAreLaidOut : Obligations.ReportsAndRecordsAreLaidOut := by
  refine ⟨fun node s => ?_, fun serial e => ?_⟩
  · have sequence : s.report.serial.setWidth 4 = BitVec.ofNat 4 (s.report.serial.toNat % 16) := by
      apply BitVec.eq_of_toNat_eq
      simp
    have low : bytes16 (s.tick.setWidth 16) = [BitVec.ofNat 8 (s.tick.toNat / 256), BitVec.ofNat 8 s.tick.toNat] := by
      have range := s.tick.isLt
      rw [bytes16_eq_ofNat, BitVec.toNat_setWidth]
      congr 1
      · apply BitVec.eq_of_toNat_eq
        simp only [BitVec.toNat_ofNat]
        omega
      · congr 1
        apply BitVec.eq_of_toNat_eq
        simp only [BitVec.toNat_ofNat]
        omega
    rw [reportFrame, sequence, low, bytes16_eq_ofNat]
    rfl
  · obtain ⟨cls, level, code, slot, initiator, responder, fromState, toState, info⟩ := e
    rw [recordBytes_eq]
    rcases toState with _ | _ | _ <;> cases fromState <;> rfl

/-! ### The happenings at a port (R4, R8, R9, R11) -/

/-- Settles O6. -/
theorem portsRiseAndReceive : Obligations.PortsRiseAndReceive := by
  have next {t u : State} (h : t = u) : (.next t : Host.Outcome State Fault Refusal) = .next u := by rw [h]
  refine ⟨fun p s => ⟨fun kept => next (if_pos (by simpa using kept)), fun free down => next (if_neg (by simp [free, down]))⟩,
    fun p s bytes d => ⟨fun up => next (if_pos up), fun down => ⟨next (if_neg (by simp [down])), next (if_neg (by simp [down]))⟩,
      fun idle => next (if_neg (by simp [idle]))⟩⟩

/-- Settles O7: port by port, then the response slots and the report. -/
theorem linkDownClearsThePort : Obligations.LinkDownClearsThePort := by
  intro p s
  have next {t u : State} (h : t = u) : (.next t : Host.Outcome State Fault Refusal) = .next u := by rw [h]
  refine ⟨fun down => next (if_neg (by simp [down])), fun up => ⟨takeLinkDown p s, next (if_pos up), takeLinkDown_port p s,
    takeLinkDown_port_other p s, takeLinkDown_responses p s, ?_, ?_⟩⟩
  · have waits : s.report.phase = .queued ∧ s.collector.target.map Prod.snd = some p ↔
        ∃ node, reportWaiting p (freeResponses p (s.modifyPort p dropLink)) = some node := by
      simp [reportWaiting_eq_some, freeResponses]
    split <;> rename_i h
    · obtain ⟨node, waiting⟩ := waits.1 h
      rw [takeLinkDown, withdrawReport, waiting]
      simp [abandonReport, closeReport, unpinEvents, freeResponses]
    · have none : reportWaiting p (freeResponses p (s.modifyPort p dropLink)) = none := by
        by_contra some
        exact h (waits.2 (Option.ne_none_iff_exists'.1 some))
      rw [takeLinkDown, withdrawReport, none]
      simp [freeResponses]
  · rw [takeLinkDown, withdrawReport_eq]
    cases p <;> rfl

/-! ### Received frames (R6, R7) -/

/-- R34: whether a request's own rule reads a protected item. -/
def readsItems : RequestCode → Bool
  | .readMatch | .readSlot | .readTransition | .readContext | .findContexts | .endContext => true
  | _ => false

/-- R34: damage shows only where an item is read. -/
theorem takeRequest_damage {c : RequestCode} (x : Call) (d : Damage) (s : State) (blind : readsItems c = false) :
    takeRequest (callRequest c x) d s = takeRequest (callRequest c x) none s := by
  have carried (u : State) : carryOut c (callRequest c x) x.params d u = carryOut c (callRequest c x) x.params none u := by
    cases c <;> first | rfl | cases blind
  have checked : checkAuthority c (callRequest c x) x.params d s = checkAuthority c (callRequest c x) x.params none s := by
    simp only [checkAuthority, carried]
  have known : checkKnown c (callRequest c x) x.params d s = checkKnown c (callRequest c x) x.params none s := by
    unfold checkKnown
    split
    · rfl
    · rfl
    · exact checked
  have form : checkForm (callRequest c x) d s = checkForm (callRequest c x) none s := by
    simpa only [checkForm, callRequest, codeOf_codeByte] using known
  simp only [takeRequest, checkRepeat, form]

theorem exec_requestInstr_arrives {c : RequestCode} {x : Call} (d : Damage) {s : State} (h : arrives x s) :
    exec (requestInstr c x d) s = .next (takeRequest (callRequest c x) d s) := by
  rw [← requestCommand_arrives h]
  cases blind : readsItems c with
  | true => cases c <;> rfl
  | false =>
    rw [requestCommand_arrives h, takeRequest_damage x d s blind, ← requestCommand_arrives h]
    cases c <;> first | rfl | cases blind

/-- Settles O9: the frame passes the ingress checks, and what it carries is the request. -/
theorem localFramesAreRequestsOrDiscarded : Obligations.LocalFramesAreRequestsOrDiscarded := by
  intro s x kind payload c d h receiving short
  obtain ⟨node, few, up, foreign⟩ := h
  have taken (kind : BitVec 6) {payload : List Byte} (short : payload.length ≤ 48) :=
    exec_endOfReception_good up receiving d (ingress_buildFrame kind x.sequence short node foreign)
  refine ⟨?_, fun other => ?_⟩
  · rw [taken 60#6 (by simp only [List.length_cons]; omega), if_pos rfl, exec_requestInstr_arrives d]
    · rfl
    · refine ⟨node, few, ?_, ?_⟩
      · simpa [received] using up
      · simpa [received] using foreign
  · rw [taken kind short, if_pos rfl, takeLocally]
    exact congrArg _ (if_neg other)

/-- R7: a good frame to another node is handled in transit. -/
theorem exec_endOfReception_transit {p : Port} {s : State} {bytes : List Byte} {f : Frame} (d : Damage)
    (up : (s.port p).up = true) (receiving : (s.port p).receiving = true) (good : ingress bytes = .good f)
    (foreign : f.dest ≠ s.ownAddress) :
    exec (.endOfReception p bytes d) s = .next (handleTransit p f d ((received p s).count p .goodFrames 1)) := by
  rw [exec_endOfReception_good up receiving d good, if_neg foreign]

section Forward

variable {p : Port} {f : Frame} {s : State}

theorem forward_down (down : (s.port p.other).up = false) : forward p f s = s.count p .linkDownDiscards 1 := by
  simp [forward, down]

variable (up : (s.port p.other).up = true)

include up

theorem forward_full (full : 8 ≤ (s.port p.other).queue.length) : forward p f s = s.count p .congestionDiscards 1 := by
  simp [forward, up, Config.transitDepth, full]

theorem forward_room (room : (s.port p.other).queue.length < 8) :
    forward p f s =
      select p.other (s.setPort p.other { s.port p.other with queue := (s.port p.other).queue ++ [f.raw] }) := by
  have open' : ¬8 ≤ (s.port p.other).queue.length := by omega
  simp [forward, up, Config.transitDepth, open', State.modifyPort]

end Forward

/-- Settles O10: in BYPASS by the other port's state, else by the verdict. -/
theorem transitFramesMeetTheirFate : Obligations.TransitFramesMeetTheirFate := by
  refine ⟨fun p s bytes f d up receiving mode good foreign => ?_, fun p s bytes f d up receiving mode good foreign => ?_⟩
  · have raw := raw_of_ingress good
    have there : ((received p s).count p .goodFrames 1).port p.other = s.port p.other := by simp [received]
    have handled : handleTransit p f d ((received p s).count p .goodFrames 1) =
        forward p f ((received p s).count p .goodFrames 1) := by
      simp [handleTransit, received, mode]
    rw [exec_endOfReception_transit d up receiving good foreign, handled]
    refine ⟨fun down => ?_, fun isUp full => ?_, fun isUp room busy => ?_, fun isUp empty idle alone => ?_⟩
    · rw [forward_down (by rwa [there])]
    · rw [forward_full (by rwa [there]) (by rwa [there])]
    · rw [forward_room (by rwa [there]) (by rwa [there]), select_of_sending (by simpa [there] using busy), there, raw]
    · have alone' : localEmpty p.other ((received p s).count p .goodFrames 1) = true := by
        rw [← alone]
        exact localEmpty_congr (by simp [received]) (by simp [received]) (by simp [received]) _
      rw [forward_room (by rwa [there]) (by simp [there, empty]),
        select_transit (head := bytes) (rest := []) (by simpa [there] using isUp) (by simpa [there] using idle)
          (by simp [there, empty, raw]) (Or.inl (by simpa using alone'))]
      simp [there, alone', sendTransit, empty]
  · have modes : ((received p s).count p .goodFrames 1).mode = s.mode := by simp [received]
    have handled : handleTransit p f d ((received p s).count p .goodFrames 1) =
        settleFate s.mode p f (classify p f d ((received p s).count p .goodFrames 1)) := by
      unfold handleTransit
      rw [modes]
      split
      · contradiction
      · rfl
    rw [exec_endOfReception_transit d up receiving good foreign, handled]
    refine ⟨fun dropped enforce => ?_, fun dropped monitor => ?_, fun passed => ?_⟩
    · simp only [settleFate, dropped, enforce, if_true]
    · simp only [settleFate, dropped, monitor, reduceCtorEq, if_false]
    · simp only [settleFate]
      split
      · contradiction
      · rfl
      · rfl

end Sys2Proof.Machine
end

section
/-! SUPPORT. Classification (R24 to R29, R37) and the searches of the watch engine (R70, R72, R92, R98), with the laws
after reset: the statements O14, O15, O19 and O54. -/

namespace Sys2Proof.Machine

open Sys2Proof.Safety

/-- Settles O54. -/
theorem resetStateIsSound : Obligations.ResetStateIsSound :=
  ⟨portsSound_reset false .powerOn .reset, modeSound_reset false .powerOn .reset,
    dialoguesSound_reset false .powerOn .reset, deliverySound_reset false .powerOn .reset,
    authoritySound_reset false .powerOn .reset, entriesSound_reset false .powerOn .reset⟩

/-! ### The scan of the match table (R24, R25) -/

theorem portAdmits_iff (ports : IngressPorts) (p : Port) :
    portAdmits ports p = true ↔ ports = .both ∨ (ports = .a ∧ p = .a) ∨ (ports = .b ∧ p = .b) := by
  cases ports <;> cases p <;> decide

theorem kindHolds_iff (low high kind : BitVec 6) : kindHolds low high kind = true ↔ low ≤ kind ∧ kind ≤ high := by
  simp [kindHolds]

theorem nodeAdmits_iff (n : Option Byte) (b : Byte) : nodeAdmits n b = true ↔ n = none ∨ n = some b := by
  cases n <;> simp [nodeAdmits]

theorem entryMatches_iff (p : Port) (f : Frame) (e : MatchEntry) : entryMatches p f e = true ↔ entryAdmits p f e := by
  simp [entryMatches, entryAdmits, portAdmits_iff, kindHolds_iff, nodeAdmits_iff, and_assoc]

theorem damaged_iff (d : Damage) (l : Location) : damaged d l = true ↔ d = some l := by
  simp [damaged]

section Scan

variable {p : Port} {f : Frame} {d : Damage} {s : State}

/-- R25: the entries before the first that stops the scan are passed over. -/
theorem scanEntries_append {passed : List EntryIndex} (h : ∀ i ∈ passed, d ≠ some (.matchEntry i) ∧ ¬entryAdmits p f (s.entry i))
    (rest : List EntryIndex) : scanEntries p f d s (passed ++ rest) = scanEntries p f d s rest := by
  induction passed with
  | nil => rfl
  | cons i passed ih =>
    obtain ⟨sound, passes⟩ := h i (by simp)
    rw [List.cons_append, scanEntries, if_neg (by rwa [damaged_iff]), if_neg (by rwa [entryMatches_iff]),
      ih (fun j hj => h j (List.mem_cons_of_mem _ hj))]

theorem scanEntries_reaches {i : EntryIndex}
    (h : ∀ j < i, d ≠ some (.matchEntry j) ∧ ¬entryAdmits p f (s.entry j)) :
    ∃ rest, scanEntries p f d s entryIndices = scanEntries p f d s (i :: rest) := by
  obtain ⟨before, after, split, below⟩ := finRange_eq_append i
  refine ⟨after, ?_⟩
  rw [entryIndices, split, scanEntries_append (fun j hj => h j ((below j).1 hj))]

theorem scanEntries_faulty {i : EntryIndex} (reached : ∀ j < i, ¬entryAdmits p f (s.entry j))
    (hit : d = some (.matchEntry i)) : scanEntries p f d s entryIndices = .faulty i := by
  obtain ⟨rest, scan⟩ := scanEntries_reaches (d := d) (i := i)
    (fun j hj => ⟨fun e => by rw [hit] at e; cases e; exact lt_irrefl _ hj, reached j hj⟩)
  rw [scan, scanEntries, if_pos ((damaged_iff _ _).2 hit)]

theorem scanEntries_matched {i : EntryIndex} (reached : ∀ j < i, ¬entryAdmits p f (s.entry j))
    (admits : entryAdmits p f (s.entry i)) (sound : ∀ j ≤ i, d ≠ some (.matchEntry j)) :
    scanEntries p f d s entryIndices = .matched i := by
  obtain ⟨rest, scan⟩ := scanEntries_reaches (d := d) (i := i) (fun j hj => ⟨sound j hj.le, reached j hj⟩)
  rw [scan, scanEntries, if_neg (by rw [damaged_iff]; exact sound i le_rfl), if_pos ((entryMatches_iff _ _ _).2 admits)]

theorem scanEntries_unmatched (passes : ∀ i, ¬entryAdmits p f (s.entry i)) (sound : ∀ i, d ≠ some (.matchEntry i)) :
    scanEntries p f d s entryIndices = .unmatched := by
  have scan := scanEntries_append (passed := entryIndices) (fun i _ => ⟨sound i, passes i⟩) []
  rwa [List.append_nil] at scan

end Scan

/-! ### A fault of an entry leaves the others (R35) -/

theorem integrityFault_entry_ne {i j : EntryIndex} (other : j ≠ i) (s : State) :
    (integrityFault (.matchEntry i) s).entry j = s.entry j := by
  have entries : (integrityFault (.matchEntry i) s).entries = (s.setEntry i .cleared).entries := by
    rw [integrityFault, faultToBypass_entries, offer_entries, latchFault_eq]
    rfl
  rw [State.entry_congr entries, State.setEntry_entry_ne other]

/-- Settles O14: by where the scan stops. -/
theorem firstMatchingEntryDecides : Obligations.FirstMatchingEntryDecides := by
  intro p f d s
  refine ⟨fun i reached hit => ?_, fun i reached admits sound => ?_, fun passes sound => ?_⟩
  · have faulty : classify p f d s = ⟨integrityFault (.matchEntry i) s, none⟩ := by
      rw [classify, scanEntries_faulty reached hit]
    exact ⟨faulty, fun j other => by rw [faulty]; exact integrityFault_entry_ne other s⟩
  · have acts : classify p f d s =
        actOn (s.entry i).action f d (s.setEntry i { s.entry i with hits := satAdd (s.entry i).hits 1 }) := by
      rw [classify, scanEntries_matched reached admits sound, ← satInc_eq_satAdd]
      rfl
    refine ⟨fun pass => ?_, fun drop => ?_, fun k watch => ?_⟩
    · rw [acts, pass]; rfl
    · rw [acts, drop]; rfl
    · rw [acts, watch]
  · rw [classify, scanEntries_unmatched passes sound]

/-! ### A frame handed to a slot (R27, R28, R89) -/

theorem holdOnAlarm_verdict (k : SlotIndex) (e : Evaluated) :
    (holdOnAlarm k e).verdict =
      if (e.state.slot k).latched = true ∧ ∃ g ∈ (e.state.slot k).status.image, g.header.holdOnAlarm = true then .drop
      else e.verdict := by
  simp only [holdOnAlarm, Bool.and_eq_true, Option.any_eq_true, Option.mem_def]
  split <;> rfl

theorem evaluationFault_program {k : SlotIndex} {f : Frame} {d : Damage} {s : State} (hit : d = some (.program k)) :
    evaluationFault k f d s = some (.program k) := by
  rw [evaluationFault, if_pos ((damaged_iff _ _).2 hit), hit]

theorem evaluationFault_context {k : SlotIndex} {f : Frame} {d : Damage} {s : State} {i : ContextIndex}
    (found : lookup k f.source f.dest s = some i) (hit : d = some (.context i)) :
    evaluationFault k f d s = some (.context i) := by
  rw [evaluationFault, if_neg (by rw [damaged_iff, hit]; nofun), found]
  simp [damaged_iff, hit]

theorem evaluationFault_none {k : SlotIndex} {f : Frame} {d : Damage} {s : State} (image : d ≠ some (.program k))
    (context : ∀ i, lookup k f.source f.dest s = some i → d ≠ some (.context i)) : evaluationFault k f d s = none := by
  rw [evaluationFault, if_neg (by rwa [damaged_iff])]
  split
  · exact if_neg (by rw [damaged_iff]; exact context _ ‹_›)
  · rfl

theorem actOn_watched {k : SlotIndex} {f : Frame} {d : Damage} {s : State} {img : Image} {draining : Bool}
    (status : (s.slot k).status = if draining then .draining img else .active img) :
    actOn (.watch k) f d s = watchFrame k img draining f d s := by
  cases draining <;> simp only [actOn, status] <;> rfl

section Watched

variable {k : SlotIndex} {img : Image} {draining : Bool} {f : Frame} {d : Damage} {s : State}

theorem watchFrame_fault {l : Location} (node : f.dest ≠ 255#8) (fault : evaluationFault k f d s = some l) :
    watchFrame k img draining f d s = ⟨integrityFault l s, none⟩ := by
  simp only [watchFrame, Config.broadcast, if_neg node, fault]

theorem watchFrame_sound (node : f.dest ≠ 255#8) (fault : evaluationFault k f d s = none) :
    watchFrame k img draining f d s =
      ⟨(holdOnAlarm k (evaluateSound k img draining f s)).state,
        some (holdOnAlarm k (evaluateSound k img draining f s)).verdict⟩ := by
  simp only [watchFrame, Config.broadcast, if_neg node, fault]

theorem watchFrame_broadcast (all : f.dest = 255#8) :
    watchFrame k img draining f d s = ⟨(holdOnAlarm k ⟨s, .pass⟩).state, some (holdOnAlarm k ⟨s, .pass⟩).verdict⟩ :=
  if_pos all

end Watched

/-- Settles O15: by the slot's state, then by what the evaluation's reads meet. -/
theorem watchedFramesAreHeldOnAlarm : Obligations.WatchedFramesAreHeldOnAlarm := by
  intro k f d s img
  refine ⟨fun empty => ?_, fun draining status => ⟨fun all => ?_, fun node sound found => ?_, fun node hit => ?_,
    fun i node found hit => ?_⟩⟩
  · simp only [actOn, empty]
  · have image : (s.slot k).status.image = some img := by
      rw [status]; cases draining <;> rfl
    rw [actOn_watched status, watchFrame_broadcast all, TableWork.holdOnAlarm_state, holdOnAlarm_verdict]
    simp [image]
  · rw [actOn_watched status, watchFrame_sound node (evaluationFault_none sound found)]
    refine ⟨TableWork.holdOnAlarm_state _ _, fun latched held => ?_, fun free => ?_⟩
    · rw [holdOnAlarm_verdict, if_pos ⟨latched, held⟩]
    · rw [holdOnAlarm_verdict, if_neg free]
  · rw [actOn_watched status, watchFrame_fault node (evaluationFault_program hit)]
  · rw [actOn_watched status, watchFrame_fault node (evaluationFault_context found hit)]

/-! ### Searches and tests (R54, R92, R98, R99) -/

theorem keyMatches_iff (k : SlotIndex) (a b : Byte) (c : Context) :
    keyMatches k a b c = true ↔
      c.slot = k ∧ ((c.initiator = a ∧ c.responder = b) ∨ (c.initiator = b ∧ c.responder = a)) := by
  simp [keyMatches]

theorem anchorAccepts_iff (f : Frame) (t : Transition) :
    anchorAccepts f t = true ↔ t.fromState = 0 ∧ (t.relation = .any ∨ t.relation = .new) ∧
      t.kindLow ≤ f.kind ∧ f.kind ≤ t.kindHigh ∧ payloadHolds t.test f.payload = true := by
  simp only [anchorAccepts, Bool.and_eq_true, Bool.or_eq_true, beq_iff_eq, kindHolds_iff]
  tauto

theorem positionAccepts_iff (st : StateIndex) (dir : Direction) (last : BitVec 4) (f : Frame) (t : Transition) :
    positionAccepts st dir last f t = true ↔ t.fromState = st ∧ t.direction = dir ∧
      relationHolds t.relation last f.sequence = true ∧
      t.kindLow ≤ f.kind ∧ f.kind ≤ t.kindHigh ∧ payloadHolds t.test f.payload = true := by
  simp only [positionAccepts, Bool.and_eq_true, beq_iff_eq, kindHolds_iff]
  tauto

/-- R99: NEXT is one more, after 15 again 0. -/
theorem relationHolds_next (last sequence : BitVec 4) :
    relationHolds .next last sequence = true ↔ sequence.toNat = (last.toNat + 1) % 16 := by
  simp [relationHolds, ← BitVec.toNat_inj, BitVec.toNat_add]

theorem payloadHolds_some (payload : List Byte) (t : PayloadTest) :
    payloadHolds (some t) payload = true ↔
      ∃ b, payload[t.offset.val]? = some b ∧ b &&& t.mask = t.value &&& t.mask := by
  simp only [payloadHolds]
  generalize payload[t.offset.val]? = found
  cases found <;> simp

/-- Settles O19. -/
theorem searchesAndTestsFindTheLowest : Obligations.SearchesAndTestsFindTheLowest := by
  refine ⟨fun s k a b i img accepts t => ?_, fun f t st dir last => ?_, fun last sequence => ?_, fun payload t => ?_⟩
  · have found (j : ContextIndex) : (s.context j).any (keyMatches k a b) = true ↔ ∃ c ∈ s.context j,
        c.slot = k ∧ ((c.initiator = a ∧ c.responder = b) ∨ (c.initiator = b ∧ c.responder = a)) := by
      simp only [Option.any_eq_true, keyMatches_iff, Option.mem_def]
    refine ⟨?_, ?_, freeIndex_eq_some s i, freeIndex_eq_none s, firstPosition_eq_some img accepts t,
      firstPosition_eq_none img accepts⟩
    · rw [lookup_eq_some]
      simp only [← found, Bool.not_eq_true]
    · rw [lookup_eq_none]
      simp only [← found, Bool.not_eq_true]
  · exact ⟨anchorAccepts_iff f t, positionAccepts_iff st dir last f t⟩
  · refine ⟨rfl, relationHolds_next last sequence, ?_, ?_⟩
    · simp [relationHolds]
    · simp [relationHolds]
  · exact ⟨rfl, payloadHolds_some payload t⟩

end Sys2Proof.Machine
end

section
/-! SUPPORT. Ending contexts (R79, R81): what the ends of a happening leave of each slot, and the drain that the last of
them completes (R178); with the moves of a live context and the installs. The statements O18, O20 and O23. -/

namespace Sys2Proof.Machine

open Sys2Proof.Safety

/-! ### Installs (R46, R178) -/

/-- Settles O18. -/
theorem installsAndCompletedDrains : Obligations.InstallsAndCompletedDrains := by
  refine ⟨fun k img s => ⟨installedImage img, rfl, rfl, rfl, fun t below => installedImage_state below⟩, fun s => ⟨?_, ?_⟩⟩
  · intro img old k pending draining
    refine ⟨fun last => ?_, fun live => ?_⟩
    · have done : drainDone s = some k := by simp [drainDone, pending, draining, last]
      have completed : completeDrain k s = (install k img { s with staging := .empty },
          [installedEvent k ((s.slot k).generation + 1)]) := by
        simp only [completeDrain, pending, if_true, install_slot_same]
        rfl
      simp only [exec, execDrainCompletion, done, completed]
      rfl
    · have waits : drainDone s = none := by simp [drainDone, pending, draining, live]
      simp only [exec, execDrainCompletion, waits]
  · intro none
    have idle : drainDone s = .none := by
      unfold drainDone
      split
      · exact absurd ‹_› (none _ _)
      all_goals rfl
    simp only [exec, execDrainCompletion, idle]

/-! ### Moves (R78, R97, R100 to R105) -/

theorem moveAlarm_eq (before after : Bool) (n : Nat) :
    moveAlarm before after n = if before = after then n else if after then n + 1 else n - 1 := by
  cases before <;> cases after <;> rfl

/-- R103, R104: the entry rule sets the latch, and tells of an alarm only where it was clear. -/
theorem alarmEntry_eq (k : SlotIndex) (a b : Byte) (before after : StateIndex) (s : State) :
    alarmEntry k a b before after s =
      (s.modifySlot k (fun x => { x with latched := true }),
        if (s.slot k).latched = false then [alarmRaisedEvent k a b before after (s.slot k).liveAlarms] else []) := by
  unfold alarmEntry
  split
  · rename_i latched
    have same : s.modifySlot k (fun x => { x with latched := true }) = s.modifySlot k (fun x => x) :=
      State.modifySlot_congr (by rw [← latched])
    rw [same, if_neg (by simp [latched])]
    simp [State.modifySlot]
  · rename_i clear
    rw [if_pos (by simpa using clear)]

theorem enterState_eq (i : ContextIndex) (img : Image) (c : Context) (t : StateIndex) (s : State) :
    enterState i img c t s =
      ((s.setContext i (some (armed img s.tick t c))).modifySlot c.slot (fun x =>
          { x with
            liveAlarms := moveAlarm (img.state c.state).alarm (img.state t).alarm x.liveAlarms
            latched := x.latched || (!(img.state c.state).alarm && (img.state t).alarm) }),
        if (!(img.state c.state).alarm && (img.state t).alarm) = true ∧ (s.slot c.slot).latched = false then
          [alarmRaisedEvent c.slot c.initiator c.responder c.state t
            (moveAlarm (img.state c.state).alarm (img.state t).alarm (s.slot c.slot).liveAlarms)]
        else []) := by
  simp only [enterState]
  generalize (img.state c.state).alarm = before
  generalize (img.state t).alarm = after
  split <;> rename_i enters
  · rw [alarmEntry_eq]
    simp [enters]
  · simp [enters]

/-- Settles O23. -/
theorem movesOfALiveContext : Obligations.MovesOfALiveContext := by
  intro i img c s
  refine ⟨rfl, rfl, fun t => ?_⟩
  simp only [applyMove, enterState_eq, moveAlarm_eq]
  rfl

/-! ### What a slot loses -/

/-- R79 step 3, R80: `n` ends with this reason, counted. -/
def countEnds (reason : EndReason) (n : Nat) (c : SlotCounters) : SlotCounters :=
  match reason with
  | .finish => { c with endedByEnd := satAdd c.endedByEnd n }
  | .timeout => { c with endedByTimeout := satAdd c.endedByTimeout n }
  | _ => { c with endedOtherwise := satAdd c.endedOtherwise n }

/-- R79: a slot after `total` ends, `n` of them its own and `alarms` of these in an ALARM state. -/
def losses (reason : EndReason) (n alarms total : Nat) (x : Slot) : Slot :=
  { x with
    contextCount := x.contextCount - n, liveAlarms := x.liveAlarms - alarms
    fullReported := if total = 0 then x.fullReported else false
    counters := countEnds reason n x.counters }

theorem satAdd_zero {w : Nat} (c : BitVec w) : satAdd c 0 = c := by
  have range := c.isLt
  apply BitVec.eq_of_toNat_eq
  rw [toNat_satAdd]
  omega

theorem satAdd_satAdd {w : Nat} (c : BitVec w) (m n : Nat) : satAdd (satAdd c m) n = satAdd c (m + n) := by
  apply BitVec.eq_of_toNat_eq
  simp only [toNat_satAdd]
  omega

theorem countEnds_zero (reason : EndReason) (c : SlotCounters) : countEnds reason 0 c = c := by
  cases reason <;> simp [countEnds, satAdd_zero]

theorem countEnds_countEnds (reason : EndReason) (m n : Nat) (c : SlotCounters) :
    countEnds reason n (countEnds reason m c) = countEnds reason (m + n) c := by
  cases reason <;> simp [countEnds, satAdd_satAdd]

theorem raiseSlot_endCounter (reason : EndReason) (c : SlotCounters) :
    raiseSlot (endCounter reason) c = countEnds reason 1 c := by
  cases reason <;> simp [raiseSlot, endCounter, countEnds, satInc_eq_satAdd]

theorem losses_zero (reason : EndReason) (x : Slot) : losses reason 0 0 0 x = x := by
  simp [losses, countEnds_zero]

theorem losses_status (reason : EndReason) (n a p : Nat) (x : Slot) : (losses reason n a p x).status = x.status := rfl

theorem losses_generation (reason : EndReason) (n a p : Nat) (x : Slot) :
    (losses reason n a p x).generation = x.generation := rfl

theorem losses_losses (reason : EndReason) (m n a b p q : Nat) (x : Slot) :
    losses reason n b q (losses reason m a p x) = losses reason (m + n) (a + b) (p + q) x := by
  simp only [losses, countEnds_countEnds, Nat.sub_sub, Nat.add_eq_zero_iff]
  congr 1
  by_cases hp : p = 0 <;> by_cases hq : q = 0 <;> simp [hp, hq]

/-- An end in another slot. -/
theorem clearFull_eq_losses (reason : EndReason) (x : Slot) : clearFull x = losses reason 0 0 1 x := by
  simp [clearFull, losses, countEnds_zero]

/-- An end in the slot itself. -/
theorem clearFull_loseContext (alarm : Bool) (reason : EndReason) (x : Slot) :
    clearFull (loseContext alarm reason x) = losses reason 1 (if alarm then 1 else 0) 1 x := by
  simp only [clearFull, loseContext, losses, raiseSlot_endCounter]
  cases alarm <;> rfl

/-! ### One end, at any slot -/

/-- Those that `which` admits, in slot `k`. -/
def endsIn (which : Context → Bool) (k : SlotIndex) (c : Context) : Bool := which c && c.slot == k

/-- Those of them in a state of kind ALARM. -/
def alarmsIn (which : Context → Bool) (k : SlotIndex) (status : SlotStatus) (c : Context) : Bool :=
  which c && c.slot == k && status.alarmState c.state

theorem alarmsIn_of_not_endsIn {which : Context → Bool} {k : SlotIndex} {c : Context} (h : endsIn which k c = false)
    (status : SlotStatus) : alarmsIn which k status c = false := by
  simp only [endsIn] at h
  simp [alarmsIn, h]

section OneEnd

variable {which : Context → Bool} {r : EndReason} {e : Ended} {i : ContextIndex}

/-- R81: a context that `which` does not admit stays. -/
theorem endNext_of_not_admitted (passes : contextBit which (e.state.context i) = 0) : endNext which r e i = e := by
  simp only [endNext]
  split
  · rfl
  · rename_i c used
    rw [if_neg]
    simpa [used, contextBit_some] using passes

theorem endNext_of_admitted {c : Context} (used : e.state.context i = some c) (admits : which c = true) :
    endNext which r e i =
      ⟨(endContext i r e.state).1, e.count + 1, e.events ++ (endContext i r e.state).2⟩ := by
  simp only [endNext, used, admits, if_true]

/-- R178: `n` ends in slot `k` do not complete a drain there. -/
def GoesOn (n : Nat) (k : SlotIndex) (s : State) : Prop :=
  ∀ img old, s.staging = .pending img k → (s.slot k).status = .draining old → n = 0 ∨ n < (s.slot k).contextCount

theorem GoesOn.of_le {m n : Nat} {k : SlotIndex} {s : State} (h : GoesOn n k s) (le : m ≤ n) : GoesOn m k s := by
  intro img old pending draining
  have := h img old pending draining
  omega

/-- R79 step 5: without a PENDING image for the slot, or with contexts left in it, nothing more happens. -/
theorem drainIfDone_idle {k : SlotIndex} {s : State}
    (idle : ∀ img old, s.staging = .pending img k → (s.slot k).status = .draining old → (s.slot k).contextCount ≠ 0) :
    drainIfDone k s = (s, []) := by
  simp only [drainIfDone, completeDrain]
  split
  · rename_i old draining
    split
    · rename_i last
      split
      · rename_i img target pending
        split
        · rename_i same
          exact absurd last (idle img old (by rw [pending, same]) draining)
        · rfl
      · rfl
    · rfl
  · rfl

/-- R79: an end that completes no drain is the freeing of its context. -/
theorem endContext_goesOn {s : State} {c : Context} (used : s.context i = some c) (goesOn : GoesOn 1 c.slot s) :
    endContext i r s = (freeContext i c r s, []) := by
  have slot : (freeContext i c r s).slot c.slot = _ := freeContext_slot i c r s c.slot
  rw [if_pos rfl] at slot
  simp only [endContext, used]
  refine drainIfDone_idle fun img old pending draining => ?_
  rw [slot] at draining ⊢
  have := goesOn img old pending draining
  simp only [clearFull, loseContext]
  omega

theorem bit_endsIn_le {c : Context} (admits : which c = true) : 1 ≤ contextBit (endsIn which c.slot) (some c) := by
  simp [contextBit_some, endsIn, admits]

/-- R79: an end at slot `k`, unless it completes a drain there. -/
theorem endContext_slot {s : State} {c : Context} {k : SlotIndex} (used : s.context i = some c) (admits : which c = true)
    (goesOn : GoesOn (contextBit (endsIn which k) (some c)) k s) :
    (endContext i r s).1.slot k =
      losses r (contextBit (endsIn which k) (some c)) (contextBit (alarmsIn which k (s.slot k).status) (some c)) 1
        (s.slot k) := by
  by_cases own : c.slot = k
  · subst own
    rw [endContext_goesOn used (goesOn.of_le (bit_endsIn_le admits)), freeContext_slot, if_pos rfl, clearFull_loseContext]
    simp [contextBit_some, endsIn, alarmsIn, admits]
  · rw [endContext_slot_ne used (Ne.symm own), clearFull_eq_losses r]
    simp [contextBit_some, endsIn, alarmsIn, own]

/-- R81: one step of ending several, at slot `k`. -/
theorem endNext_slot {k : SlotIndex} (goesOn : GoesOn (contextBit (endsIn which k) (e.state.context i)) k e.state) :
    (endNext which r e i).state.slot k =
      losses r (contextBit (endsIn which k) (e.state.context i))
        (contextBit (alarmsIn which k (e.state.slot k).status) (e.state.context i))
        (contextBit which (e.state.context i)) (e.state.slot k) := by
  cases used : e.state.context i with
  | none =>
    rw [endNext_of_not_admitted (by rw [used]; rfl)]
    exact (losses_zero r _).symm
  | some c =>
    rw [used] at goesOn
    cases admits : which c with
    | false =>
      rw [endNext_of_not_admitted (by simp [used, contextBit_some, admits])]
      simp [contextBit_some, endsIn, alarmsIn, admits, losses_zero]
    | true =>
      rw [endNext_of_admitted used admits, endContext_slot used admits goesOn]
      simp [contextBit_some, admits]

/-- R79 step 5: an end that completes no drain leaves no event, and the staging buffer as it is. -/
theorem endNext_quiet (goesOn : ∀ k, GoesOn (contextBit (endsIn which k) (e.state.context i)) k e.state) :
    (endNext which r e i).events = e.events ∧ (endNext which r e i).state.staging = e.state.staging := by
  cases used : e.state.context i with
  | none => rw [endNext_of_not_admitted (by rw [used]; rfl)]; exact ⟨rfl, rfl⟩
  | some c =>
    cases admits : which c with
    | false => rw [endNext_of_not_admitted (by simp [used, contextBit_some, admits])]; exact ⟨rfl, rfl⟩
    | true =>
      have own := goesOn c.slot
      rw [used] at own
      rw [endNext_of_admitted used admits, endContext_goesOn used (own.of_le (bit_endsIn_le admits))]
      exact ⟨List.append_nil _, rfl⟩

/-- R178: an end leaves the staging buffer as it is, or empties it. -/
theorem endNext_pending {img : Image} {k : SlotIndex} (pending : (endNext which r e i).state.staging = .pending img k) :
    e.state.staging = .pending img k := by
  simp only [endNext, endContext, drainIfDone, completeDrain] at pending
  repeat' split at pending
  all_goals first | exact pending | cases pending

/-- What does not complete a drain goes on not doing so. -/
theorem GoesOn.next {k : SlotIndex} {n : Nat} (h : GoesOn (contextBit (endsIn which k) (e.state.context i) + n) k e.state) :
    GoesOn n k (endNext which r e i).state := by
  intro img old pending draining
  rw [endNext_slot (h.of_le (Nat.le_add_right _ _))] at draining ⊢
  have := h img old (endNext_pending pending) draining
  simp only [losses]
  omega

/-- R178: the last end of the DRAINING target installs the waiting image. -/
theorem endContext_installs {s : State} {c : Context} {img old : Image} (used : s.context i = some c)
    (pending : s.staging = .pending img c.slot) (draining : (s.slot c.slot).status = .draining old)
    (last : (s.slot c.slot).contextCount - 1 = 0) :
    endContext i r s =
      (install c.slot img { freeContext i c r s with staging := .empty },
        [installedEvent c.slot ((s.slot c.slot).generation + 1)]) := by
  have slot : (freeContext i c r s).slot c.slot = _ := freeContext_slot i c r s c.slot
  rw [if_pos rfl] at slot
  simp only [endContext, used]
  have done := drainIfDone_of_done (k := c.slot) (s := freeContext i c r s) (img := img) (old := old)
    (by rw [slot]; exact draining) (by rw [slot]; exact last) pending
  rw [done, slot]
  rfl

end OneEnd

/-! ### The ends of a happening, along a list of indices -/

/-- The contexts in use at these indices that `which` admits. -/
def countIn (l : List ContextIndex) (which : Context → Bool) (s : State) : Nat :=
  (l.filter (fun i => (s.context i).any which)).length

theorem countIn_cons (i : ContextIndex) (l : List ContextIndex) (which : Context → Bool) (s : State) :
    countIn (i :: l) which s = contextBit which (s.context i) + countIn l which s := by
  simp only [countIn, List.filter_cons, contextBit]
  split
  · simp only [List.length_cons]
    omega
  · simp

theorem countIn_le {p q : Context → Bool} (h : ∀ c, p c = true → q c = true) (l : List ContextIndex) (s : State) :
    countIn l p s ≤ countIn l q s := by
  refine (List.monotone_filter_right _ fun i admits => ?_).length_le
  rw [Option.any_eq_true] at admits ⊢
  obtain ⟨c, used, admits⟩ := admits
  exact ⟨c, used, h c admits⟩

/-- A step at another index changes no count along the list. -/
theorem countIn_endNext {i : ContextIndex} {l : List ContextIndex} (absent : i ∉ l) (p which : Context → Bool)
    (r : EndReason) (e : Ended) : countIn l p (endNext which r e i).state = countIn l p e.state := by
  unfold countIn
  congr 1
  refine List.filter_congr fun j hj => ?_
  rw [endNext_context, if_neg (fun same : j = i => absent (same ▸ hj))]

section Fold

variable {which : Context → Bool} {r : EndReason}

/-- R79, R81: what the ends along a list leave of a slot whose drain they do not complete. -/
theorem foldl_endNext_slot {k : SlotIndex} {l : List ContextIndex} (distinct : l.Nodup) (e : Ended)
    (goesOn : GoesOn (countIn l (endsIn which k) e.state) k e.state) :
    (l.foldl (endNext which r) e).state.slot k =
      losses r (countIn l (endsIn which k) e.state) (countIn l (alarmsIn which k (e.state.slot k).status) e.state)
        (countIn l which e.state) (e.state.slot k) := by
  induction l generalizing e with
  | nil => exact (losses_zero r _).symm
  | cons i l ih =>
    obtain ⟨absent, distinct⟩ := List.nodup_cons.1 distinct
    simp only [countIn_cons] at goesOn ⊢
    have head := endNext_slot (which := which) (r := r) (goesOn.of_le (Nat.le_add_right _ _))
    rw [List.foldl_cons, ih distinct _ (by rw [countIn_endNext absent]; exact goesOn.next), head, losses_losses]
    simp only [countIn_endNext absent, losses]

/-- R81: ends that complete no drain leave no event, and the staging buffer as it is. -/
theorem foldl_endNext_quiet {l : List ContextIndex} (distinct : l.Nodup) (e : Ended)
    (goesOn : ∀ k, GoesOn (countIn l (endsIn which k) e.state) k e.state) :
    (l.foldl (endNext which r) e).events = e.events ∧ (l.foldl (endNext which r) e).state.staging = e.state.staging := by
  induction l generalizing e with
  | nil => exact ⟨rfl, rfl⟩
  | cons i l ih =>
    obtain ⟨absent, distinct⟩ := List.nodup_cons.1 distinct
    simp only [countIn_cons] at goesOn
    obtain ⟨events, staging⟩ := endNext_quiet (r := r) fun k => (goesOn k).of_le (Nat.le_add_right _ _)
    have rest := ih distinct (endNext which r e i) fun k => by
      rw [countIn_endNext absent]
      exact (goesOn k).next
    rw [List.foldl_cons, rest.1, rest.2]
    exact ⟨events, staging⟩

theorem losses_installSlot (q : Nat) (img : Image) (x : Slot) : losses r 0 0 q (installSlot img x) = installSlot img x := by
  simp [losses, installSlot, countEnds_zero]

/-- R81, R178: the ends along a list that are the last of the DRAINING target install the waiting image. -/
theorem foldl_endNext_installs {img old : Image} {k : SlotIndex} {l : List ContextIndex} (distinct : l.Nodup) (e : Ended)
    (pending : e.state.staging = .pending img k) (draining : (e.state.slot k).status = .draining old)
    (live : 0 < countIn l (endsIn which k) e.state)
    (all : countIn l (endsIn which k) e.state = (e.state.slot k).contextCount) :
    (l.foldl (endNext which r) e).state.slot k =
        installSlot img (losses r (countIn l (endsIn which k) e.state)
          (countIn l (alarmsIn which k (e.state.slot k).status) e.state) (countIn l which e.state) (e.state.slot k)) ∧
      (l.foldl (endNext which r) e).state.staging = .empty ∧
      (l.foldl (endNext which r) e).events = e.events ++ [installedEvent k ((e.state.slot k).generation + 1)] := by
  induction l generalizing e with
  | nil => exact absurd live (lt_irrefl 0)
  | cons i l ih =>
    obtain ⟨absent, distinct⟩ := List.nodup_cons.1 distinct
    simp only [countIn_cons] at live all ⊢
    rw [List.foldl_cons]
    by_cases last : countIn l (endsIn which k) e.state = 0
    · obtain ⟨c, used, admits, own⟩ : ∃ c, e.state.context i = some c ∧ which c = true ∧ c.slot = k := by
        cases used : e.state.context i with
        | none => simp [used, contextBit_none, last] at live
        | some c =>
          have : 0 < contextBit (endsIn which k) (some c) := by rw [← used]; omega
          simp only [contextBit_some, endsIn] at this
          exact ⟨c, rfl, by by_contra no; simp [no] at this⟩
      subst own
      have head : endNext which r e i =
          ⟨install c.slot img { freeContext i c r e.state with staging := .empty }, e.count + 1,
            e.events ++ [installedEvent c.slot ((e.state.slot c.slot).generation + 1)]⟩ := by
        rw [endNext_of_admitted used admits, endContext_installs used pending draining]
        rw [← all, used, last]
        simp [contextBit_some, endsIn, admits]
      have slot : (endNext which r e i).state.slot c.slot = installSlot img ((freeContext i c r e.state).slot c.slot) := by
        rw [head]
        exact install_slot_same _ _ _
      have staging : (endNext which r e i).state.staging = .empty := by rw [head]; rfl
      have noAlarm (status : SlotStatus) : countIn l (alarmsIn which c.slot status) e.state = 0 := by
        have := countIn_le (p := alarmsIn which c.slot status) (q := endsIn which c.slot)
          (fun c h => by simp [alarmsIn] at h; simp [endsIn, h]) l e.state
        omega
      refine ⟨?_, ?_, ?_⟩
      · rw [foldl_endNext_slot distinct _ (fun _ _ _ _ => Or.inl (by rw [countIn_endNext absent, last])),
          countIn_endNext absent, countIn_endNext absent, last, noAlarm, slot, losses_installSlot, freeContext_slot,
          if_pos rfl, clearFull_loseContext]
        simp [installSlot, losses, used, contextBit_some, endsIn, alarmsIn, admits, noAlarm]
      · rw [(foldl_endNext_quiet distinct _ (fun k img old h => by rw [staging] at h; cases h)).2, staging]
      · rw [(foldl_endNext_quiet distinct _ (fun k img old h => by rw [staging] at h; cases h)).1, head]
    · have here : contextBit (endsIn which k) (e.state.context i) < (e.state.slot k).contextCount := by omega
      have slot := endNext_slot (which := which) (r := r) (i := i) (e := e) (k := k) (fun _ _ _ _ => Or.inr here)
      obtain ⟨events, staging⟩ := endNext_quiet (which := which) (r := r) (i := i) (e := e) (by
        intro k' img' old' pending' _
        cases pending.symm.trans pending'
        exact Or.inr here)
      have rest := ih distinct (endNext which r e i) (by rw [staging, pending]) (by rw [slot]; exact draining)
        (by rw [countIn_endNext absent]; omega)
        (by rw [countIn_endNext absent, slot]; simp only [losses]; omega)
      rw [slot, losses_losses, events] at rest
      simpa only [countIn_endNext absent, losses_status, losses_generation] using rest

end Fold

/-! ### The ends of a happening -/

section Happening

variable {which : Context → Bool} {r : EndReason} {s : State}

/-- R81: what the ends of a happening leave of a slot whose drain they do not complete. -/
theorem endContexts_slot {k : SlotIndex} (goesOn : GoesOn (countContexts (endsIn which k) s) k s) :
    (endContexts which r s).state.slot k =
      losses r (countContexts (endsIn which k) s) (countContexts (alarmsIn which k (s.slot k).status) s)
        (countContexts which s) (s.slot k) := by
  rw [endContexts]
  exact foldl_endNext_slot (l := contextIndices) (List.nodup_finRange 96) ⟨s, 0, []⟩ goesOn

theorem endContexts_quiet (goesOn : ∀ k, GoesOn (countContexts (endsIn which k) s) k s) :
    (endContexts which r s).events = [] ∧ (endContexts which r s).state.staging = s.staging := by
  rw [endContexts]
  exact foldl_endNext_quiet (l := contextIndices) (List.nodup_finRange 96) ⟨s, 0, []⟩ goesOn

/-- R178: the last ends of the DRAINING target. -/
theorem endContexts_installs {img old : Image} {k : SlotIndex} (pending : s.staging = .pending img k)
    (draining : (s.slot k).status = .draining old) (live : 0 < countContexts (endsIn which k) s)
    (all : countContexts (endsIn which k) s = (s.slot k).contextCount) :
    (endContexts which r s).state.slot k =
        installSlot img (losses r (countContexts (endsIn which k) s)
          (countContexts (alarmsIn which k (s.slot k).status) s) (countContexts which s) (s.slot k)) ∧
      (endContexts which r s).state.staging = .empty ∧
      (endContexts which r s).events = [installedEvent k ((s.slot k).generation + 1)] := by
  rw [endContexts]
  exact foldl_endNext_installs (l := contextIndices) (List.nodup_finRange 96) ⟨s, 0, []⟩ pending draining live all

/-- R81: a slot that loses no context loses at most its full-reported flag. -/
theorem losses_of_none (reason : EndReason) (total : Nat) (x : Slot) :
    { losses reason 0 0 total x with fullReported := x.fullReported } = x := by
  simp [losses, countEnds_zero]

theorem endContexts_slot_of_none {k : SlotIndex}
    (none : ∀ i : ContextIndex, ∀ c ∈ s.context i, which c = true → c.slot ≠ k) :
    (endContexts which r s).state.slot k = losses r 0 0 (countContexts which s) (s.slot k) := by
  have noEnd : countContexts (endsIn which k) s = 0 := countContexts_eq_zero.2 (fun i c hc => by
    have := none i c hc
    simpa [endsIn] using this)
  have noAlarm : countContexts (alarmsIn which k (s.slot k).status) s = 0 := countContexts_eq_zero.2 (fun i c hc =>
    alarmsIn_of_not_endsIn (countContexts_eq_zero.1 noEnd i c hc) _)
  rw [endContexts_slot (fun _ _ _ _ => Or.inl noEnd), noEnd, noAlarm]

end Happening

/-- Settles O20: one end by its slot's drain, several by induction along the indices. -/
theorem endingContexts : Obligations.EndingContexts := by
  refine ⟨fun i reason s c used => ?_, fun which reason s => ?_⟩
  · have freed : freeContext i c reason s = ((s.setContext i none).modifySlot c.slot (fun x =>
        { x with
          contextCount := x.contextCount - 1
          liveAlarms := if (s.slot c.slot).status.alarmState c.state then x.liveAlarms - 1 else x.liveAlarms
          counters := countEnds reason 1 (s.slot c.slot).counters })).modifySlots
            (fun x => { x with fullReported := false }) := by
      refine congrArg (State.modifySlots clearFull) (State.modifySlot_congr ?_)
      rw [State.setContext_slot, loseContext, raiseSlot_endCounter]
    refine ⟨fun goesOn => ?_, fun old img draining last pending => ?_⟩
    · rw [endContext_of_goesOn used goesOn, freed]
      cases reason <;> rfl
    · rw [endContext_installs used pending draining last, freed]
      cases reason <;> rfl
  · refine ⟨endContexts_context which reason s, endContexts_count which reason s, ?_, fun k none => ?_,
      fun k goesOn => ?_, fun goesOn => ?_,
      fun img old k pending draining live all => ?_⟩
    · rw [endContexts_eq]
    · rw [endContexts_slot_of_none none]
      exact losses_of_none _ _ _
    · rw [endContexts_slot (fun _ old _ draining => goesOn old draining), endContexts_count]
      cases reason <;> rfl
    · exact endContexts_quiet (which := which) (r := reason) (s := s)
        fun k img old pending draining => goesOn img k pending old draining
    · obtain ⟨slot, staging, events⟩ := endContexts_installs (r := reason) pending draining live all
      refine ⟨?_, staging, events⟩
      rw [slot, install_slot_same, State.modifySlot_slot_same, endContexts_count]
      cases reason <;> rfl

end Sys2Proof.Machine
end

section
/-! SUPPORT. The whole effect of an integrity fault (R34 to R36, R38): its removal, its events and the drain that it may
complete; with the statement O16. -/

namespace Sys2Proof.Machine

open Sys2Proof.Safety

/-! ### A drain in the course of a happening (R35, R178) -/

/-- The slot is the DRAINING target, at generation `g`, with contexts in use. -/
def Drains (k : SlotIndex) (img : Image) (g : Byte) (s : State) : Prop :=
  s.staging = .pending img k ∧ (∃ old, (s.slot k).status = .draining old) ∧ (s.slot k).generation = g ∧
    countsSound k s ∧ 0 < (s.slot k).contextCount

/-- The drain has completed: the waiting image is installed, and the slot has no context. -/
def Drained (k : SlotIndex) (img : Image) (g : Byte) (s : State) : Prop :=
  s.staging = .empty ∧ s.slot k = ⟨.active (installedImage img), g + 1, .zero, false, false, 0, 0⟩ ∧
    ∀ i : ContextIndex, ∀ c ∈ s.context i, c.slot ≠ k

section Course

variable {k : SlotIndex} {img : Image} {g : Byte} {s t : State} {which : Context → Bool} {r : EndReason} {e : Ended}
  {i : ContextIndex}

theorem Drains.congr (h : Drains k img g s) (staging : t.staging = s.staging) (slot : t.slot k = s.slot k)
    (contexts : t.contexts = s.contexts) : Drains k img g t := by
  simpa only [Drains, countsSound, staging, slot, countContexts_congr contexts] using h

theorem Drained.congr (h : Drained k img g s) (staging : t.staging = s.staging) (slot : t.slot k = s.slot k)
    (contexts : t.contexts = s.contexts) : Drained k img g t := by
  simpa only [Drained, staging, slot, State.context_congr contexts] using h

/-- A DRAINING slot with its counts in order has a context in use. -/
theorem Drains.inUse (h : Drains k img g s) : ∃ i : ContextIndex, ∃ c ∈ s.context i, c.slot = k := by
  obtain ⟨-, -, -, ⟨count, -⟩, live⟩ := h
  by_contra none
  push Not at none
  have : countContexts (ofSlot k) s = 0 := countContexts_eq_zero.2 fun i c hc => by
    simpa [ofSlot] using none i c hc
  omega

/-- A context that stays is counted as before, one that ends is not. -/
theorem contextBit_filter (p : Context → Bool) (x : Option Context) :
    contextBit p (x.filter (fun c => !which c)) + contextBit (fun c => which c && p c) x = contextBit p x := by
  cases x with
  | none => rfl
  | some c => cases h : which c <;> simp [Option.filter, contextBit, h]

/-- R81: a step lowers the count of what it tests by the bit of the context that it ends. -/
theorem countContexts_endNext (p : Context → Bool) :
    countContexts p (endNext which r e i).state + contextBit (fun c => which c && p c) (e.state.context i) =
      countContexts p e.state := by
  have change := countContexts_change (which := p) (s := e.state) (t := (endNext which r e i).state) (i := i)
    (fun j other => by rw [endNext_context, if_neg other])
  have bits := contextBit_filter (which := which) p (e.state.context i)
  rw [endNext_context, if_pos rfl] at change
  omega

theorem countContexts_endNext_slot (k : SlotIndex) :
    countContexts (ofSlot k) (endNext which r e i).state + contextBit (endsIn which k) (e.state.context i) =
      countContexts (ofSlot k) e.state := countContexts_endNext (ofSlot k)

theorem countContexts_endNext_alarms (k : SlotIndex) (status : SlotStatus) :
    countContexts (fun c => ofSlot k c && status.alarmState c.state) (endNext which r e i).state +
        contextBit (alarmsIn which k status) (e.state.context i) =
      countContexts (fun c => ofSlot k c && status.alarmState c.state) e.state := by
  have assoc : alarmsIn which k status = fun c => which c && (ofSlot k c && status.alarmState c.state) := by
    funext c
    simp only [alarmsIn, ofSlot, Bool.and_assoc]
  rw [assoc]
  exact countContexts_endNext _

/-- R81: a context of slot `k` that has stayed was there before. -/
theorem alone_endNext (alone : ∀ j : ContextIndex, ∀ c ∈ e.state.context j, c.slot ≠ k) :
    ∀ j : ContextIndex, ∀ c ∈ (endNext which r e i).state.context j, c.slot ≠ k := by
  intro j c hc
  rw [endNext_context] at hc
  split at hc
  · rw [Option.mem_def, Option.filter_eq_some_iff] at hc
    exact alone j c hc.1
  · exact alone j c hc

/-- R178: one end of a DRAINING slot goes on with the drain or completes it. -/
theorem endNext_drains (h : Drains k img g e.state) :
    ((endNext which r e i).events = e.events ∧ Drains k img g (endNext which r e i).state) ∨
      ((endNext which r e i).events = e.events ++ [installedEvent k (g + 1)] ∧
        Drained k img g (endNext which r e i).state) := by
  obtain ⟨pending, ⟨old, draining⟩, generation, ⟨count, alarms⟩, live⟩ := h
  have left := countContexts_endNext_slot (which := which) (r := r) (e := e) (i := i) k
  have leftAlarms := countContexts_endNext_alarms (which := which) (r := r) (e := e) (i := i) k (e.state.slot k).status
  by_cases goesOn : contextBit (endsIn which k) (e.state.context i) < (e.state.slot k).contextCount
  · have slot := endNext_slot (which := which) (r := r) (e := e) (i := i) (k := k) (fun _ _ _ _ => Or.inr goesOn)
    obtain ⟨events, staging⟩ := endNext_quiet (which := which) (r := r) (e := e) (i := i) (by
      intro k' img' old' pending' _
      cases pending.symm.trans pending'
      exact Or.inr goesOn)
    refine Or.inl ⟨events, staging.trans pending, ⟨old, ?_⟩, ?_, ⟨?_, ?_⟩, ?_⟩
    · rw [slot]; exact draining
    · rw [slot]; exact generation
    · rw [slot]; simp only [losses]; omega
    · rw [slot]; simp only [losses]; omega
    · rw [slot]; simp only [losses]; omega
  · obtain ⟨c, used, admits, own⟩ : ∃ c, e.state.context i = some c ∧ which c = true ∧ c.slot = k := by
      cases used : e.state.context i with
      | none => rw [used, contextBit_none] at goesOn; exact absurd live goesOn
      | some c =>
        rw [used, contextBit_some] at goesOn
        exact ⟨c, rfl, by by_contra no; simp [endsIn, no] at goesOn; omega⟩
    subst own
    have bit : contextBit (endsIn which c.slot) (e.state.context i) = 1 := by
      simp [used, contextBit_some, endsIn, admits]
    have last : (e.state.slot c.slot).contextCount - 1 = 0 := by omega
    have empty : countContexts (ofSlot c.slot) (endNext which r e i).state = 0 := by omega
    have noAlarm : countContexts (fun d => ofSlot c.slot d && (e.state.slot c.slot).status.alarmState d.state)
        (endNext which r e i).state = 0 :=
      Nat.le_zero.1 (empty ▸ countContexts_le fun d hd => (Bool.and_eq_true_iff.1 hd).1)
    have head : endNext which r e i =
        ⟨install c.slot img { freeContext i c r e.state with staging := .empty }, e.count + 1,
          e.events ++ [installedEvent c.slot ((e.state.slot c.slot).generation + 1)]⟩ := by
      rw [endNext_of_admitted used admits, endContext_installs used pending draining last]
    refine Or.inr ⟨by rw [head, generation], by rw [head]; rfl, ?_, fun j d hd => ?_⟩
    · have slot : (endNext which r e i).state.slot c.slot =
          installSlot img ((freeContext i c r e.state).slot c.slot) := by
        rw [head]
        exact install_slot_same _ _ _
      rw [slot, freeContext_slot, if_pos rfl, clearFull_loseContext, installSlot, losses, last]
      have quiet : (e.state.slot c.slot).liveAlarms -
          (if (e.state.slot c.slot).status.alarmState c.state then 1 else 0) = 0 := by
        simp only [used, contextBit_some, alarmsIn, admits, beq_self_eq_true, Bool.true_and] at leftAlarms
        omega
      simp only [quiet, generation]
    · simpa [ofSlot] using countContexts_eq_zero.1 empty j d hd

/-- A completed drain stays as it is. -/
theorem endNext_drained (h : Drained k img g e.state) :
    (endNext which r e i).events = e.events ∧ Drained k img g (endNext which r e i).state := by
  obtain ⟨staging, slot, alone⟩ := h
  have bit : contextBit (endsIn which k) (e.state.context i) = 0 := by
    cases used : e.state.context i with
    | none => rfl
    | some c => simp [contextBit_some, endsIn, alone i c used]
  have alarm (status : SlotStatus) : contextBit (alarmsIn which k status) (e.state.context i) = 0 := by
    cases used : e.state.context i with
    | none => rfl
    | some c => simp [contextBit_some, alarmsIn, alone i c used]
  obtain ⟨events, same⟩ := endNext_quiet (which := which) (r := r) (e := e) (i := i) (by
    intro k' img' old' pending'
    rw [staging] at pending'
    cases pending')
  refine ⟨events, same.trans staging, ?_, alone_endNext alone⟩
  rw [endNext_slot (fun _ _ _ _ => Or.inl bit), bit, alarm, slot]
  simp [losses, countEnds_zero]

theorem foldl_endNext_drained (l : List ContextIndex) (h : Drained k img g e.state) :
    (l.foldl (endNext which r) e).events = e.events ∧ Drained k img g (l.foldl (endNext which r) e).state := by
  induction l generalizing e with
  | nil => exact ⟨rfl, h⟩
  | cons i l ih =>
    obtain ⟨events, drained⟩ := endNext_drained (which := which) (r := r) (i := i) h
    rw [List.foldl_cons, ← events]
    exact ih drained

theorem foldl_endNext_drains (l : List ContextIndex) (h : Drains k img g e.state) :
    ((l.foldl (endNext which r) e).events = e.events ∧ Drains k img g (l.foldl (endNext which r) e).state) ∨
      ((l.foldl (endNext which r) e).events = e.events ++ [installedEvent k (g + 1)] ∧
        Drained k img g (l.foldl (endNext which r) e).state) := by
  induction l generalizing e with
  | nil => exact Or.inl ⟨rfl, h⟩
  | cons i l ih =>
    rw [List.foldl_cons]
    rcases endNext_drains (which := which) (r := r) (i := i) h with ⟨events, drains⟩ | ⟨events, drained⟩
    · rw [← events]
      exact ih drains
    · rw [← events]
      exact Or.inr (foldl_endNext_drained l drained)

theorem endContexts_drained (h : Drained k img g s) :
    (endContexts which r s).events = [] ∧ Drained k img g (endContexts which r s).state := by
  rw [endContexts]
  exact foldl_endNext_drained contextIndices (e := ⟨s, 0, []⟩) h

theorem endContexts_drains (h : Drains k img g s) :
    ((endContexts which r s).events = [] ∧ Drains k img g (endContexts which r s).state) ∨
      ((endContexts which r s).events = [installedEvent k (g + 1)] ∧ Drained k img g (endContexts which r s).state) := by
  rw [endContexts]
  exact foldl_endNext_drains contextIndices (e := ⟨s, 0, []⟩) h

/-- R35, R178: when every context of the slot ends, the drain completes. -/
theorem endContexts_completes (h : Drains k img g s) (all : ∀ c, ofSlot k c = true → which c = true) :
    (endContexts which r s).events = [installedEvent k (g + 1)] ∧ Drained k img g (endContexts which r s).state := by
  rcases endContexts_drains (which := which) (r := r) h with ⟨-, drains⟩ | completed
  · obtain ⟨i, c, hc, own⟩ := drains.inUse
    rw [endContexts_context, Option.mem_def, Option.filter_eq_some_iff] at hc
    have := all c (by simp [ofSlot, own])
    simp [this] at hc
  · exact completed

end Course

/-! ### How many contexts end -/

section Total

variable {which : Context → Bool} {r : EndReason}

/-- R81: a context that ends is counted, one that stays is in use. -/
theorem endNext_total (e : Ended) (i : ContextIndex) :
    (endNext which r e i).count + countContexts (fun _ => true) (endNext which r e i).state =
      e.count + countContexts (fun _ => true) e.state := by
  have left := countContexts_endNext (which := which) (r := r) (e := e) (i := i) (fun _ => true)
  simp only [Bool.and_true] at left
  have counted : (endNext which r e i).count = e.count + contextBit which (e.state.context i) := by
    cases used : e.state.context i with
    | none => rw [endNext_of_not_admitted (by rw [used]; rfl)]; rfl
    | some c =>
      cases admits : which c with
      | false =>
        rw [endNext_of_not_admitted (by simp [used, contextBit_some, admits])]
        simp [contextBit_some, admits]
      | true =>
        rw [endNext_of_admitted used admits]
        simp [contextBit_some, admits]
  have eta : (fun c => which c) = which := rfl
  rw [eta] at left
  omega

theorem endContexts_total (s : State) :
    (endContexts which r s).count + countContexts (fun _ => true) (endContexts which r s).state =
      countContexts (fun _ => true) s := by
  have fold : ∀ (l : List ContextIndex) (e : Ended),
      (l.foldl (endNext which r) e).count + countContexts (fun _ => true) (l.foldl (endNext which r) e).state =
        e.count + countContexts (fun _ => true) e.state := by
    intro l
    induction l with
    | nil => exact fun e => rfl
    | cons i l ih => exact fun e => (ih _).trans (endNext_total e i)
  have all := fold contextIndices ⟨s, 0, []⟩
  rw [endContexts]
  exact all.trans (Nat.zero_add _)

end Total

/-! ### The removal (R35) -/

theorem removeFaulty_total (l : Location) (s : State) :
    (removeFaulty l s).count + countContexts (fun _ => true) (removeFaulty l s).state = countContexts (fun _ => true) s := by
  cases l with
  | matchEntry i => exact (Nat.zero_add _).trans (countContexts_congr rfl)
  | program k =>
    have total := endContexts_total (which := ofSlot k) (r := .fault) s
    simp only [removeFaulty, removeProgram]
    generalize endContexts (ofSlot k) .fault s = e at total
    split
    · exact total
    · exact total
  | context i =>
    have total := endNext_total (which := fun _ => true) (r := .fault) ⟨s, 0, []⟩ i
    simp only [Nat.zero_add] at total
    exact total

theorem removeFaulty_context (l : Location) (s : State) (i : ContextIndex) :
    (removeFaulty l s).state.context i = (s.context i).filter (fun c => match l with
      | .matchEntry _ => true
      | .program k => c.slot != k
      | .context j => i != j) := by
  cases l with
  | matchEntry j => cases h : s.context i <;> simp [removeFaulty, h, Option.filter]
  | program k =>
    have ended := endContexts_context (ofSlot k) .fault s i
    simp only [removeFaulty, removeProgram]
    generalize endContexts (ofSlot k) .fault s = e at ended
    split
    · rw [State.modifySlot_context]; exact ended
    · exact ended
  | context j =>
    rw [removeFaulty, endNext_context]
    by_cases same : i = j
    · rw [if_pos same, same]
      cases s.context j <;> simp [Option.filter]
    · rw [if_neg same]
      cases s.context i <;> simp [Option.filter, same]

/-- R35: the removal keeps a drain, or completes it; it completes that of the faulty slot. -/
theorem removeFaulty_drains {k : SlotIndex} {img : Image} {g : Byte} {s : State} (l : Location) (h : Drains k img g s) :
    ((removeFaulty l s).events = [] ∧ Drains k img g (removeFaulty l s).state ∧ l ≠ .program k) ∨
      ((removeFaulty l s).events = [installedEvent k (g + 1)] ∧ Drained k img g (removeFaulty l s).state) := by
  cases l with
  | matchEntry i => exact Or.inl ⟨rfl, h.congr rfl rfl rfl, nofun⟩
  | context i =>
    rcases endNext_drains (which := fun _ => true) (r := .fault) (e := ⟨s, 0, []⟩) (i := i) h with
      ⟨events, drains⟩ | completed
    · exact Or.inl ⟨events, drains, nofun⟩
    · exact Or.inr completed
  | program j =>
    by_cases same : j = k
    · subst same
      obtain ⟨old, draining⟩ := h.2.1
      simp only [removeFaulty, removeProgram, draining]
      exact Or.inr (endContexts_completes h fun c hc => hc)
    · have other : Location.program j ≠ .program k := fun e => same (by cases e; rfl)
      have course := endContexts_drains (which := ofSlot j) (r := .fault) h
      simp only [removeFaulty, removeProgram]
      generalize endContexts (ofSlot j) .fault s = e at course
      have slot : (e.state.modifySlot j emptySlot).slot k = e.state.slot k := State.modifySlot_slot_ne (Ne.symm same) _ _
      split
      · exact course.imp (fun ⟨events, drains⟩ => ⟨events, drains.congr rfl slot rfl, other⟩)
          (fun ⟨events, drained⟩ => ⟨events, drained.congr rfl slot rfl⟩)
      · exact course.imp_left fun ⟨events, drains⟩ => ⟨events, drains, other⟩

/-- R35: without a PENDING buffer the removal installs nothing. -/
theorem removeFaulty_quiet {s : State} (l : Location) (none : ∀ (img : Image) (k : SlotIndex), s.staging ≠ .pending img k) :
    (removeFaulty l s).events = [] ∧ (removeFaulty l s).state.staging = s.staging := by
  cases l with
  | matchEntry i => exact ⟨rfl, rfl⟩
  | context i =>
    exact endNext_quiet (which := fun _ => true) (r := .fault) (e := ⟨s, 0, []⟩) (i := i)
      fun k img old pending => absurd pending (none img k)
  | program k =>
    have quiet := endContexts_quiet (which := ofSlot k) (r := .fault) (s := s) fun k img old pending => absurd pending (none img k)
    simp only [removeFaulty, removeProgram]
    generalize endContexts (ofSlot k) .fault s = e at quiet
    split
    · exact quiet
    · exact quiet

/-! ### The whole effect (R36, R38) -/

/-- R36 steps 1 and 2: the state once the item is removed, the location latched and FAULT offered. -/
def faultTold (l : Location) (s : State) : State := offer (faultEvent l) (latchFault l (removeFaulty l s).state)

/-- R32, R36 step 3: the ends of the change to BYPASS. -/
def faultRest (l : Location) (s : State) : Ended := changeToBypass .fault (faultTold l s)

/-- The INSTALLED events of the whole happening. -/
def faultInstalls (l : Location) (s : State) : List EventBody :=
  if s.mode = .bypass then (removeFaulty l s).events else (removeFaulty l s).events ++ (faultRest l s).events

section Effect

variable {l : Location} {s : State}

theorem removeFaulty_latch (l : Location) (s : State) :
    (removeFaulty l s).state.faultLatch = s.faultLatch ∧ (removeFaulty l s).state.defaultAction = s.defaultAction := by
  obtain ⟨i, -, cleared⟩ | work := removeFaulty_entries l s
  · rw [cleared]
    exact ⟨rfl, rfl⟩
  · exact ⟨work.classifier.2.1, work.classifier.2.2.2⟩

theorem faultTold_eq (l : Location) (s : State) :
    faultTold l s = offer (faultEvent l) { (removeFaulty l s).state with faultLatch := some (s.faultLatch.getD l) } := by
  rw [faultTold, latchFault_eq, (removeFaulty_latch l s).1]

theorem faultTold_mode (l : Location) (s : State) : (faultTold l s).mode = s.mode := by
  rw [faultTold_eq, offer_mode]
  exact removeFaulty_mode l s

theorem integrityFault_bypass (bypass : s.mode = .bypass) :
    integrityFault l s = offerAll (faultInstalls l s) (faultTold l s) := by
  have mode : (faultTold l s).mode = .bypass := by rw [faultTold_mode, bypass]
  have fault : integrityFault l s = faultToBypass (removeFaulty l s) (faultTold l s) := rfl
  rw [fault, faultInstalls, if_pos bypass]
  simp only [faultToBypass, mode]

theorem integrityFault_awake (awake : s.mode ≠ .bypass) :
    integrityFault l s = offer (modeChangedEvent .bypass (countContexts (fun _ => true) s))
      (offerAll (faultInstalls l s) (faultRest l s).state) := by
  have fault : integrityFault l s = faultToBypass (removeFaulty l s) (faultTold l s) := rfl
  have told : countContexts (fun _ => true) (faultTold l s) = countContexts (fun _ => true) (removeFaulty l s).state :=
    countContexts_congr (by rw [faultTold_eq, offer_contexts])
  have count : (removeFaulty l s).count + (faultRest l s).count = countContexts (fun _ => true) s := by
    have rest : (faultRest l s).count = countContexts (fun _ => true) (faultTold l s) := by
      rw [faultRest, changeToBypass, endContexts_count]
      exact countContexts_congr rfl
    rw [rest, told, removeFaulty_total]
  rw [fault, faultInstalls, if_neg awake, ← count]
  unfold faultToBypass
  split
  · rename_i bypass
    exact absurd (faultTold_mode l s ▸ bypass) awake
  · rfl

/-- The offers aside, the state is that of the removal in BYPASS, and else that of the change to BYPASS. -/
theorem integrityFault_tables :
    (s.mode = .bypass → (integrityFault l s).slots = (removeFaulty l s).state.slots ∧
      (integrityFault l s).staging = (removeFaulty l s).state.staging) ∧
    (s.mode ≠ .bypass → (integrityFault l s).slots = (faultRest l s).state.slots ∧
      (integrityFault l s).staging = (faultRest l s).state.staging) := by
  refine ⟨fun bypass => ?_, fun awake => ?_⟩
  · rw [integrityFault_bypass bypass, faultTold_eq]
    simp
  · rw [integrityFault_awake awake]
    simp

theorem faultToBypass_latch (e : Ended) (u : State) :
    (faultToBypass e u).faultLatch = u.faultLatch ∧ (faultToBypass e u).defaultAction = u.defaultAction := by
  have changed : (changeToBypass .fault u).state.faultLatch = u.faultLatch ∧
      (changeToBypass .fault u).state.defaultAction = u.defaultAction := by
    rw [changeToBypass, endContexts_eq]
    exact ⟨rfl, rfl⟩
  unfold faultToBypass
  split
  · simp
  · simpa using changed

theorem integrityFault_latch (l : Location) (s : State) :
    (integrityFault l s).faultLatch = some (s.faultLatch.getD l) ∧ (integrityFault l s).defaultAction = s.defaultAction := by
  have fault : integrityFault l s = faultToBypass (removeFaulty l s) (faultTold l s) := rfl
  rw [fault, (faultToBypass_latch _ _).1, (faultToBypass_latch _ _).2, faultTold_eq, offer_faultLatch,
    offer_defaultAction]
  exact ⟨rfl, (removeFaulty_latch l s).2⟩

theorem integrityFault_entry (l : Location) (s : State) (i : EntryIndex) :
    (integrityFault l s).entry i = if l = .matchEntry i then MatchEntry.cleared else s.entry i := by
  have entries : (integrityFault l s).entries = (removeFaulty l s).state.entries := by
    rw [integrityFault, faultToBypass_entries, offer_entries, latchFault_eq]
  rw [State.entry_congr entries]
  cases l with
  | matchEntry j =>
    by_cases same : i = j
    · subst same
      rw [if_pos rfl]
      exact State.setEntry_entry_same _ _ _
    · rw [if_neg (fun e => same (by cases e; rfl))]
      exact State.setEntry_entry_ne same _ _
  | program k => exact State.entry_congr (WatchWork.removes k .fault s).classifier.2.2.1 i
  | context j => exact State.entry_congr (WatchWork.endsNext (fun _ => true) .fault ⟨s, 0, []⟩ j).classifier.2.2.1 i

/-- R32: at a slot that does not drain the change to BYPASS is the loss of its contexts. -/
theorem faultRest_slot {k : SlotIndex} (steady : ∀ old, ((removeFaulty l s).state.slot k).status ≠ .draining old) :
    ∃ n a total, (faultRest l s).state.slot k = losses .fault n a total ((removeFaulty l s).state.slot k) := by
  have slot : ({ faultTold l s with mode := .bypass } : State).slot k = (removeFaulty l s).state.slot k :=
    State.slot_congr (by rw [faultTold_eq]; simp) k
  rw [faultRest, changeToBypass, endContexts_slot (fun _ old _ draining => absurd (slot ▸ draining) (steady old)), slot]
  exact ⟨_, _, _, rfl⟩

/-- R35, R47: the faulty slot, where it was ACTIVE, is EMPTY. -/
theorem integrityFault_program {k : SlotIndex} {img : Image} (active : (s.slot k).status = .active img) :
    ((integrityFault (.program k) s).slot k).status = .empty ∧ ((integrityFault (.program k) s).slot k).latched = false ∧
      ((integrityFault (.program k) s).slot k).fullReported = false ∧
      ((integrityFault (.program k) s).slot k).generation = (s.slot k).generation := by
  have ended := endContexts_slot (which := ofSlot k) (r := .fault) (s := s) (k := k)
    (fun _ old _ draining => by rw [active] at draining; cases draining)
  have generation : ((endContexts (ofSlot k) .fault s).state.slot k).generation = (s.slot k).generation := by
    rw [ended]; rfl
  have removed : (removeFaulty (.program k) s).state.slot k = emptySlot ((endContexts (ofSlot k) .fault s).state.slot k) := by
    simp only [removeFaulty, removeProgram, active]
    exact State.modifySlot_slot_same _ _ _
  generalize (endContexts (ofSlot k) .fault s).state.slot k = x at generation removed
  by_cases bypass : s.mode = .bypass
  · rw [State.slot_congr (integrityFault_tables.1 bypass).1 k, removed]
    exact ⟨rfl, rfl, rfl, generation⟩
  · obtain ⟨n, a, total, rest⟩ := faultRest_slot (l := .program k) (s := s) (k := k) (by rw [removed]; nofun)
    rw [State.slot_congr (integrityFault_tables.2 bypass).1 k, rest, removed]
    exact ⟨rfl, rfl, by simp [losses, emptySlot], generation⟩

/-- R35, R178: the drain that the fault completes. -/
theorem integrityFault_drained {k : SlotIndex} {img : Image} {g : Byte} (empties : l = .program k ∨ s.mode ≠ .bypass)
    (h : Drains k img g s) :
    faultInstalls l s = [installedEvent k (g + 1)] ∧ Drained k img g (integrityFault l s) := by
  have toldDrains (d : Drains k img g (removeFaulty l s).state) : Drains k img g { faultTold l s with mode := .bypass } :=
    d.congr (by rw [faultTold_eq]; simp) (State.slot_congr (by rw [faultTold_eq]; simp) k) (by rw [faultTold_eq]; simp)
  have toldDrained (d : Drained k img g (removeFaulty l s).state) :
      Drained k img g { faultTold l s with mode := .bypass } :=
    d.congr (by rw [faultTold_eq]; simp) (State.slot_congr (by rw [faultTold_eq]; simp) k) (by rw [faultTold_eq]; simp)
  have removal := removeFaulty_drains l h
  by_cases bypass : s.mode = .bypass
  · obtain ⟨-, -, other⟩ | ⟨events, drained⟩ := removal
    · exact absurd (empties.resolve_right (not_not.2 bypass)) other
    · rw [faultInstalls, if_pos bypass, integrityFault_bypass bypass]
      refine ⟨events, (toldDrained drained).congr ?_ ?_ ?_⟩
      · simp
      · exact State.slot_congr (by simp) k
      · simp
  · have rest : (removeFaulty l s).events ++ (faultRest l s).events = [installedEvent k (g + 1)] ∧
        Drained k img g (faultRest l s).state := by
      rw [faultRest, changeToBypass]
      obtain ⟨events, drains, -⟩ | ⟨events, drained⟩ := removal
      · obtain ⟨later, drained⟩ := endContexts_completes (which := fun _ => true) (r := .fault) (toldDrains drains)
          (fun _ _ => rfl)
        exact ⟨by rw [events, later]; rfl, drained⟩
      · obtain ⟨later, drained⟩ := endContexts_drained (which := fun _ => true) (r := .fault) (toldDrained drained)
        exact ⟨by rw [events, later]; rfl, drained⟩
    rw [faultInstalls, if_neg bypass, integrityFault_awake bypass]
    refine ⟨rest.1, rest.2.congr ?_ ?_ ?_⟩
    · simp
    · exact State.slot_congr (by simp) k
    · simp

/-- R35: without a PENDING buffer nothing is installed. -/
theorem integrityFault_quiet (none : ∀ (img : Image) (k : SlotIndex), s.staging ≠ .pending img k) :
    faultInstalls l s = [] ∧ (integrityFault l s).staging = s.staging := by
  obtain ⟨events, staging⟩ := removeFaulty_quiet l none
  have told : ({ faultTold l s with mode := .bypass } : State).staging = s.staging := by
    rw [faultTold_eq]
    simpa using staging
  by_cases bypass : s.mode = .bypass
  · exact ⟨by rw [faultInstalls, if_pos bypass, events], (integrityFault_tables.1 bypass).2.trans staging⟩
  · have later := endContexts_quiet (which := fun _ => true) (r := .fault) (s := { faultTold l s with mode := .bypass })
      (fun k img old pending => absurd (told ▸ pending) (none img k))
    have rest : faultRest l s = endContexts (fun _ => true) .fault { faultTold l s with mode := .bypass } := by
      rw [faultRest, changeToBypass]
    rw [← rest] at later
    exact ⟨by rw [faultInstalls, if_neg bypass, events, later.1]; rfl,
      (integrityFault_tables.2 bypass).2.trans (later.2.trans told)⟩

theorem integrityFault_context_bypass (bypass : s.mode = .bypass) (i : ContextIndex) :
    (integrityFault l s).context i = (removeFaulty l s).state.context i := by
  rw [integrityFault_bypass bypass, faultTold_eq, offerAll_context, offer_context]
  rfl

theorem integrityFault_context_awake (awake : s.mode ≠ .bypass) (i : ContextIndex) :
    (integrityFault l s).context i = none := by
  rw [integrityFault_awake awake, offer_context, offerAll_context]
  exact changeToBypass_context _ _ i

end Effect

/-- Settles O16: the removal, the latch, FAULT, and outside BYPASS the change to it. -/
theorem integrityFaultLeavesBypass : Obligations.IntegrityFaultLeavesBypass := by
  intro l s t latch fault ofFaultySlot removed told rest installed
  have first : latch = some (s.faultLatch.getD l) := by
    cases h : s.faultLatch <;> simp [latch, h]
  have isRemoved : removed = ((removeFaulty l s).state, (removeFaulty l s).events) := by
    cases l with
    | matchEntry i => rfl
    | program k =>
      have same : ofFaultySlot k = endContexts (ofSlot k) .fault s := rfl
      simp only [removed, removeFaulty, removeProgram, same]
      generalize endContexts (ofSlot k) .fault s = e
      cases (s.slot k).status <;> rfl
    | context i =>
      have ended : endContext i .fault s =
          ((endNext (fun _ => true) .fault ⟨s, 0, []⟩ i).state, (endNext (fun _ => true) .fault ⟨s, 0, []⟩ i).events) := by
        cases used : s.context i with
        | none => simp only [endContext, endNext, used]
        | some c => rw [endNext_of_admitted (e := ⟨s, 0, []⟩) used rfl, List.nil_append]
      exact ended
  have isTold : told = faultTold l s := by
    rw [faultTold_eq, ← first]
    simp only [told, isRemoved]
    cases l <;> rfl
  have isRest : rest = faultRest l s := by
    simp only [rest, isTold]
    rfl
  have isInstalled : installed = faultInstalls l s := by
    simp only [installed, isRemoved, isRest]
    rfl
  have work := TableWork.faults l s
  refine ⟨fun bypass => ⟨?_, fun i => ?_⟩, fun awake => ⟨?_, fun i => integrityFault_context_awake awake i⟩,
    faultToBypass_mode _ _, ?_, (integrityFault_latch l s).2, work.tick_eq, work.lock_eq, work.responses_eq, work.cache_eq,
    work.collector_eq, work.report_eq, work.portA_eq, work.portB_eq, integrityFault_entry l s,
    fun k img isSlot active => ?_, fun k img old empties pending draining counts live => ?_, fun none => ?_⟩
  · rw [isInstalled, isTold]
    exact integrityFault_bypass bypass
  · exact (integrityFault_context_bypass bypass i).trans (removeFaulty_context l s i)
  · rw [isInstalled, isRest]
    exact integrityFault_awake awake
  · rw [first]
    exact (integrityFault_latch l s).1
  · subst isSlot
    exact integrityFault_program active
  · obtain ⟨events, staging, slot, -⟩ := integrityFault_drained (l := l) (g := (s.slot k).generation) empties
      ⟨pending, ⟨old, draining⟩, rfl, counts, live⟩
    rw [isInstalled]
    refine ⟨events, staging, slot.trans ?_⟩
    rw [install_slot_same]
    rfl
  · rw [isInstalled]
    exact integrityFault_quiet none

end Sys2Proof.Machine
end

section
/-! SUPPORT. Frame evaluation and expiry, outcome by outcome (R72 to R75, R91 to R108, R114 to R120): the statements O21,
O22 and O27. -/

namespace Sys2Proof.Machine

open Sys2Proof.Safety

/-! ### Program events and counts -/

theorem countSlot_eq (k : SlotIndex) (c : SlotCounter) (s : State) :
    s.countSlot k c = s.modifySlot k (fun x => { x with counters := raiseSlot c (s.slot k).counters }) :=
  State.modifySlot_congr rfl

/-! ### Frames without a context (R72 to R75, R91 to R94) -/

section Anchors

variable {k : SlotIndex} {img : Image} {f : Frame} {s : State} {t : Transition}

theorem evaluateSound_draining (unknown : lookup k f.source f.dest s = none) :
    evaluateSound k img true f s = unanchored k s := by simp [evaluateSound, unknown]

theorem evaluateSound_none (unknown : lookup k f.source f.dest s = none) (none : firstPosition img (anchorAccepts f) = none) :
    evaluateSound k img false f s = unanchored k s := by simp [evaluateSound, unknown, anchorAttempt, none]

theorem evaluateSound_anchor (unknown : lookup k f.source f.dest s = none)
    (first : firstPosition img (anchorAccepts f) = some t) : evaluateSound k img false f s = takeAnchor k img f t s := by
  simp [evaluateSound, unknown, anchorAttempt, first]

theorem unanchored_eq (k : SlotIndex) (s : State) :
    unanchored k s = ⟨s.modifySlot k (fun x =>
      { x with counters := { (s.slot k).counters with unanchored := satAdd (s.slot k).counters.unanchored 1 } }),
        .pass⟩ := by
  rw [unanchored, countSlot_eq]
  simp only [raiseSlot, satInc_eq_satAdd]

/-- R74, R75: a refusal is told once for each full episode. -/
theorem refuseAnchor_eq (k : SlotIndex) (img : Image) (f : Frame) (s : State) :
    refuseAnchor k img f s =
      ⟨if (s.slot k).fullReported then
          s.modifySlot k (fun x => { x with counters := raiseSlot .overflowRefusals x.counters, fullReported := true })
        else
          offer (contextFullEvent k f.source f.dest)
            (s.modifySlot k (fun x => { x with counters := raiseSlot .overflowRefusals x.counters, fullReported := true })),
        img.header.overflow⟩ := by
  simp only [refuseAnchor, State.countSlot, State.modifySlot_slot_same]
  split <;> rename_i full
  · have same : s.modifySlot k (fun x => { x with counters := raiseSlot .overflowRefusals x.counters }) =
        s.modifySlot k (fun x => { x with counters := raiseSlot .overflowRefusals x.counters, fullReported := true }) :=
      State.modifySlot_congr (by rw [full])
    rw [same]
  · rw [State.modifySlot_modifySlot]

/-- R66, R72, R94, R103: a context is created. -/
theorem createContext_eq (k : SlotIndex) (img : Image) (f : Frame) (target : StateIndex) (i : ContextIndex) (s : State) :
    createContext k img f target i s =
      ((s.setContext i (some (newContext k img f target s))).modifySlot k (fun x =>
          { x with
            contextCount := x.contextCount + 1
            liveAlarms := if (img.state target).alarm then x.liveAlarms + 1 else x.liveAlarms
            counters := raiseSlot .created x.counters
            latched := x.latched || (img.state target).alarm }),
        if (img.state target).alarm = true ∧ (s.slot k).latched = false then
          [alarmRaisedEvent k f.source f.dest 0 target ((s.slot k).liveAlarms + 1)]
        else []) := by
  simp only [createContext]
  split <;> rename_i alarm
  · rw [alarmEntry_eq]
    simp [alarm]
  · simp [alarm]

end Anchors

/-- Settles O21: by the anchor that accepts and the room in the table. -/
theorem anchorsAttempted : Obligations.AnchorsAttempted := by
  refine ⟨fun k img f s t target i unknown first enters free => ?_, fun k img f s unknown => ⟨?_, fun none => ?_,
    fun t first => ⟨fun finish => ?_, fun target enters full => ?_⟩⟩⟩
  · rw [evaluateSound_anchor unknown first]
    simp only [takeAnchor, enters, free, createContext_eq, raiseSlot, satInc_eq_satAdd]
    cases t.event <;> rfl
  · rw [evaluateSound_draining unknown, unanchored_eq]
  · rw [evaluateSound_none unknown none, unanchored_eq]
  · rw [evaluateSound_anchor unknown first]
    simp only [takeAnchor, finish]
    cases t.event <;> rfl
  · rw [evaluateSound_anchor unknown first]
    simp only [takeAnchor, enters, full, refuseAnchor_eq, raiseSlot, satInc_eq_satAdd]
    rfl

/-! ### Frames of a live context (R95 to R102) -/

/-- 00_scope.md, "Conventions": a saturating rise by 1, in numbers. -/
theorem satInc_eq_ofNat {w : Nat} (c : BitVec w) : satInc c = BitVec.ofNat w (min (2 ^ w - 1) (c.toNat + 1)) := by
  have range := c.isLt
  apply BitVec.eq_of_toNat_eq
  rw [satInc_eq_satAdd, toNat_satAdd, BitVec.toNat_ofNat, Nat.mod_eq_of_lt (by omega), Nat.min_comm]

/-- R96: the retry count after the retransmission check. -/
def retriesAfter (f : Frame) (c : Context) : BitVec 4 :=
  if f.source = c.initiator ∧ f.sequence = c.lastSequence then satInc c.retryCount
  else if f.source = c.initiator then 0 else c.retryCount

theorem takenRecord_eq (f : Frame) (c : Context) :
    takenRecord f c =
      { c with
        framesTaken := satInc c.framesTaken
        lastSequence := if f.source = c.initiator then f.sequence else c.lastSequence
        retryCount := retriesAfter f c } := by
  unfold takenRecord frameDirection retriesAfter
  by_cases forward : f.source = c.initiator
  · by_cases again : f.sequence = c.lastSequence <;> simp [forward, again]
  · simp [forward]

theorem hitsLimit_iff (img : Image) (f : Frame) (c : Context) :
    hitsLimit img f c = true ↔ (f.source = c.initiator ∧ f.sequence = c.lastSequence) ∧
      (img.state c.state).retryLimit ≠ 15#4 ∧ (img.state c.state).retryLimit < retriesAfter f c := by
  have direction : frameDirection f c = .forward ↔ f.source = c.initiator := by
    unfold frameDirection
    split <;> simp_all
  simp only [hitsLimit, retransmits, takenRecord_eq, Bool.and_eq_true, beq_iff_eq, bne_iff_ne, decide_eq_true_eq,
    direction, and_assoc]

theorem evaluateSound_live {k : SlotIndex} {img : Image} {draining : Bool} {f : Frame} {s : State} {i : ContextIndex}
    {c : Context} (found : lookup k f.source f.dest s = some i) (used : s.context i = some c) :
    evaluateSound k img draining f s = evaluateLive i img c f s := by
  simp only [evaluateSound, found, used]

section Live

variable {i : ContextIndex} {img : Image} {c : Context} {f : Frame} {s : State}

theorem evaluateLive_hit (hit : hitsLimit img f c = true) : evaluateLive i img c f s = retryLimitHit i img c f s :=
  if_pos hit

theorem evaluateLive_accepted {t : Transition} (miss : ¬hitsLimit img f c = true)
    (first : firstPosition img (positionAccepts c.state (frameDirection f c) c.lastSequence f) = some t) :
    evaluateLive i img c f s = takeTransition i img c t f s := by
  rw [evaluateLive, if_neg miss, first]

theorem evaluateLive_unexpected (miss : ¬hitsLimit img f c = true)
    (none : firstPosition img (positionAccepts c.state (frameDirection f c) c.lastSequence f) = none) :
    evaluateLive i img c f s = unexpectedFrame i img c f s := by
  rw [evaluateLive, if_neg miss, none]

end Live

/-- R108: the program event of a frame, and then those of its move. -/
theorem finishFrame_eq (i : ContextIndex) (img : Image) (c : Context) (m : Option Target) (cls : EventClass)
    (event : Option EventSetting) (verdict : Verdict) (f : Frame) (s : State) :
    finishFrame i img c m cls event verdict f s =
      ⟨offerAll (programEvent cls event c.slot c.initiator c.responder c.state (m.getD (.state c.state))
          (f.kind.setWidth 8) ++ (applyMove i img c m s).2) (applyMove i img c m s).1, verdict⟩ := by
  cases m <;> rfl

/-- Settles O22: by the retransmission check, then by the position that accepts. -/
theorem framesOfALiveContext : Obligations.FramesOfALiveContext := by
  intro k img draining f s i c found used forward again retries record limit hit dir accepts u move outcome
  have isRetries : retries = retriesAfter f c := by
    simp only [retries, retriesAfter, satInc_eq_ofNat]
    rfl
  have isRecord : record = takenRecord f c := by
    simp only [record, takenRecord_eq, satInc_eq_ofNat, isRetries]
    rfl
  have hits : hit ↔ hitsLimit img f c = true := by
    rw [hitsLimit_iff, ← isRetries]
  rw [evaluateSound_live found used, hits]
  refine ⟨fun hit => ?_, fun miss => ⟨fun t first => ?_, fun none => ?_⟩⟩
  · rw [evaluateLive_hit hit, retryLimitHit, ← isRecord, finishFrame_eq]
    rfl
  · rw [evaluateLive_accepted miss first, takeTransition, ← isRecord, finishFrame_eq]
    rfl
  · rw [evaluateLive_unexpected miss none, unexpectedFrame, ← isRecord, finishFrame_eq]
    rfl

/-! ### Expiry (R116 to R120) -/

section Expiry

variable {i : ContextIndex} {d : Damage} {s : State} {c : Context}

theorem expireIfDue_of_due (used : s.context i = some c) (due : c.deadline = s.tick) :
    expireIfDue i d s = takeExpiry i d s := if_pos (by simp [Machine.due, used, due])

theorem takeExpiry_context (used : s.context i = some c) (hit : d = some (.context i)) :
    takeExpiry i d s = integrityFault (.context i) s := by
  simp [takeExpiry, used, damaged, hit]

theorem takeExpiry_program {img : Image} (used : s.context i = some c) (image : (s.slot c.slot).status.image = some img)
    (hit : d = some (.program c.slot)) : takeExpiry i d s = integrityFault (.program c.slot) s := by
  simp [takeExpiry, used, damaged, hit, image]

theorem takeExpiry_sound {img : Image} (used : s.context i = some c) (image : (s.slot c.slot).status.image = some img)
    (first : d ≠ some (.context i)) (second : d ≠ some (.program c.slot)) :
    takeExpiry i d s = expireContext i img c s := by
  simp [takeExpiry, used, damaged, first, second, image]

end Expiry

/-- Settles O27: by what the reads of a due expiry meet. -/
theorem expiryAppliesTheTimeoutTarget : Obligations.ExpiryAppliesTheTimeoutTarget := by
  intro i d s
  have next {t : State} (h : expireIfDue i d s = t) : exec (.expiry i d) s = .next t := congrArg _ h
  refine ⟨fun free => next ?_, fun c used => ⟨fun later => next ?_, fun due hit => next ?_, fun img due image =>
    ⟨fun hit => next ?_, fun first second => ⟨fun finish => next ?_, fun t enters => next ?_⟩⟩⟩⟩
  · exact if_neg (by simp [due, free])
  · exact if_neg (by simp [due, used, later])
  · rw [expireIfDue_of_due used due, takeExpiry_context used hit]
  · rw [expireIfDue_of_due used due, takeExpiry_program used image hit]
  · rw [expireIfDue_of_due used due, takeExpiry_sound used image first second]
    simp only [expireContext, finish]
    cases (img.state c.state).event <;> rfl
  · rw [expireIfDue_of_due used due, takeExpiry_sound used image first second]
    simp only [expireContext, enters, applyMove]
    cases (img.state c.state).event <;> rfl

end Sys2Proof.Machine
end

section
/-! SUPPORT. The event queue (R127 to R134): the statements O28 and O29, on offers and on the selection. -/

namespace Sys2Proof.Machine

open Sys2Proof.Safety

/-! ### The lowest level (R129) -/

/-- R129: no unpinned event is below the lowest level; without one every event is pinned. -/
theorem lowestLevel_spec (l : List Event) :
    (lowestLevel l = none → ∀ y ∈ l, y.pinned = true) ∧
      ∀ m, lowestLevel l = some m → ∀ y ∈ l, y.pinned = false → m ≤ y.body.level := by
  induction l with
  | nil => simp
  | cons e l ih =>
    obtain ⟨ihNone, ihSome⟩ := ih
    simp only [lowestLevel]
    split
    · rename_i pinned
      simpa [pinned] using ⟨ihNone, ihSome⟩
    · split <;> rename_i low
      · have rest := ihNone low
        refine ⟨nofun, fun m hm y hy free => ?_⟩
        cases hm
        rcases List.mem_cons.1 hy with rfl | hy
        · exact BitVec.le_refl _
        · simp [rest y hy] at free
      · rename_i n
        refine ⟨nofun, fun m hm y hy free => ?_⟩
        have below : m ≤ e.body.level ∧ m ≤ n := by
          cases hm
          split
          · rename_i lower
            exact ⟨BitVec.le_refl _, BitVec.le_of_lt lower⟩
          · rename_i higher
            exact ⟨BitVec.not_lt.1 higher, BitVec.le_refl _⟩
        rcases List.mem_cons.1 hy with rfl | hy
        · exact below.1
        · exact BitVec.le_trans below.2 (ihSome n low y hy free)

theorem lowestLevel_eq_some {l : List Event} {m : BitVec 2} {x : Event} (here : x ∈ l) (free : x.pinned = false)
    (level : x.body.level = m) (lowest : ∀ y ∈ l, y.pinned = false → m ≤ y.body.level) : lowestLevel l = some m := by
  cases found : lowestLevel l with
  | none => simp [(lowestLevel_spec l).1 found x here] at free
  | some n =>
    obtain ⟨y, hy, unpinned, at'⟩ := exists_of_lowestLevel found
    have above := (lowestLevel_spec l).2 n found x here free
    have below := lowest y hy unpinned
    rw [level] at above
    rw [at'] at below
    rw [BitVec.le_antisymm above below]

theorem lowestLevel_pinned {l : List Event} (pinned : ∀ y ∈ l, y.pinned = true) : lowestLevel l = none := by
  cases found : lowestLevel l with
  | none => rfl
  | some n =>
    obtain ⟨y, hy, unpinned, -⟩ := exists_of_lowestLevel found
    simp [pinned y hy] at unpinned

/-- R129: the newest of those that `p` admits is removed. -/
theorem eraseLast_append {α : Type} {p : α → Bool} {before after : List α} {x : α} (here : p x = true)
    (newest : ∀ y ∈ after, p y = false) : eraseLast p (before ++ x :: after) = before ++ after := by
  have later : ∀ y ∈ after.reverse, ¬p y = true := fun y hy => by simp [newest y (List.mem_reverse.1 hy)]
  rw [eraseLast, List.reverse_append, List.reverse_cons, List.append_assoc, List.eraseP_append_right _ later]
  simp [here]

/-- Settles O28: the collision first, then the three cases of a full queue. -/
theorem offersAreAdmittedDisplaceOrAreLost : Obligations.OffersAreAdmittedDisplaceOrAreLost := by
  intro e s
  refine ⟨fun collides => ?_, fun free => ?_, fun room => decideOffer_of_room room,
    fun before after x m full split at' newest lowest => ?_, fun full pinned => ?_⟩
  · rw [offer, removeCollision_of_mem collides]
  · rw [offer, removeCollision_of_forall free]
  · have low := lowestLevel_eq_some (by rw [split]; simp) at'.1 at'.2 lowest
    refine ⟨fun above => ?_, fun notAbove => ?_⟩
    · have erased : eraseLast (fun x => !x.pinned && x.body.level == m) s.events = before ++ after := by
        rw [split]
        refine eraseLast_append (by simp [at'.1, at'.2]) fun y hy => ?_
        have := newest y hy
        simp only [not_and] at this
        cases pinned : y.pinned <;> simp_all
      rw [decideOffer_displaces (Nat.not_lt.2 full) low above, admitEvent, displace, erased]
    · exact decideOffer_discards (Nat.not_lt.2 full) fun n found => by
        cases low.symm.trans found
        exact BitVec.not_lt.2 notAbove
  · exact decideOffer_discards (Nat.not_lt.2 full) fun n found => by simp [lowestLevel_pinned pinned] at found

/-! ### The selection order (R131) -/

theorem mem_unpinnedOf {m : BitVec 2} {l : List Event} {e : Event} :
    e ∈ unpinnedOf m l ↔ e ∈ l ∧ e.pinned = false ∧ e.body.level = m := by
  simp [unpinnedOf]

theorem level_cases (m : BitVec 2) : m = 3#2 ∨ m = 2#2 ∨ m = 1#2 ∨ m = 0#2 := by
  revert m
  decide

theorem mem_selectionOrder {l : List Event} {e : Event} : e ∈ selectionOrder l ↔ e ∈ l ∧ e.pinned = false := by
  simp only [selectionOrder, List.mem_append, mem_unpinnedOf]
  have := level_cases e.body.level
  tauto

theorem selectionOrder_length (l : List Event) :
    (selectionOrder l).length = (l.filter (fun e => !e.pinned)).length := by
  induction l with
  | nil => rfl
  | cons e l ih =>
    simp only [selectionOrder, unpinnedOf, List.length_append] at ih ⊢
    cases pinned : e.pinned with
    | true => simpa [pinned] using ih
    | false =>
      rcases level_cases e.body.level with level | level | level | level <;>
        · simp [pinned, level]
          omega

/-- R131: the higher level comes first. -/
theorem selectionOrder_pairwise (l : List Event) :
    (selectionOrder l).Pairwise (fun x y => y.body.level ≤ x.body.level) := by
  have within (m : BitVec 2) : (unpinnedOf m l).Pairwise (fun x y => y.body.level ≤ x.body.level) :=
    List.pairwise_of_forall_mem_list fun x hx y hy => by rw [(mem_unpinnedOf.1 hx).2.2, (mem_unpinnedOf.1 hy).2.2]; exact BitVec.le_refl m
  simp only [selectionOrder, List.pairwise_append, List.mem_append, mem_unpinnedOf]
  refine ⟨⟨⟨within _, within _, ?_⟩, within _, ?_⟩, within _, ?_⟩
  · rintro x ⟨-, -, hx⟩ y ⟨-, -, hy⟩
    rw [hx, hy]
    decide
  · rintro x (⟨-, -, hx⟩ | ⟨-, -, hx⟩) y ⟨-, -, hy⟩ <;> rw [hx, hy] <;> decide
  · rintro x ((⟨-, -, hx⟩ | ⟨-, -, hx⟩) | ⟨-, -, hx⟩) y ⟨-, -, hy⟩ <;> rw [hx, hy] <;> decide

/-- R131: within a level the order is that of arrival. -/
theorem filter_selectionOrder (m : BitVec 2) (l : List Event) :
    (selectionOrder l).filter (fun e => e.body.level == m) = unpinnedOf m l := by
  have part (n : BitVec 2) : (unpinnedOf n l).filter (fun e => e.body.level == m) = if n = m then unpinnedOf m l else [] := by
    split
    · rename_i same
      subst same
      exact List.filter_eq_self.2 fun e he => by simp [(mem_unpinnedOf.1 he).2.2]
    · rename_i other
      exact List.filter_eq_nil_iff.2 fun e he => by simp [(mem_unpinnedOf.1 he).2.2, other]
  simp only [selectionOrder, List.filter_append, part]
  rcases level_cases m with rfl | rfl | rfl | rfl <;> simp

/-- Settles O29. -/
theorem selectionTakesTheHighestThenTheEarliest : Obligations.SelectionTakesTheHighestThenTheEarliest := by
  intro l
  refine ⟨?_, fun e he => mem_selectionOrder.1 (List.mem_of_mem_take he),
    (selectionOrder_pairwise l).sublist (List.take_sublist _ _), fun m => ?_, fun x hx free left y hy => ?_⟩
  · rw [selected, List.length_take, selectionOrder_length]
    rfl
  · have pre : (selected l).filter (fun e => e.body.level == m) <+: (selectionOrder l).filter (fun e => e.body.level == m) :=
      (List.take_prefix _ _).filter _
    rwa [filter_selectionOrder] at pre
  · have dropped : x ∈ (selectionOrder l).drop Config.eventsPerReport := by
      have all := mem_selectionOrder.2 ⟨hx, free⟩
      rw [← List.take_append_drop Config.eventsPerReport (selectionOrder l), List.mem_append] at all
      exact all.resolve_left left
    have order := selectionOrder_pairwise l
    rw [← List.take_append_drop Config.eventsPerReport (selectionOrder l), List.pairwise_append] at order
    exact order.2.2 y hy x dropped

end Sys2Proof.Machine
end

section
/-! SUPPORT. The ticks of the three blocks that count time (R112, R113), with the running out of the lease (R164) and of
the report unit's timers (R146 to R149), and assembly (R143): the statements O24, O25, O26 and O30. -/

namespace Sys2Proof.Machine

open Sys2Proof.Safety

/-! ### What is left of a tick leaves the time alone (R113) -/

theorem lowerLease_tick (s : State) : (lowerLease s).tick = s.tick := by
  unfold lowerLease leaseRunsOut
  split
  · rfl
  · split
    · rw [offer_tick, freeLock_eq]
    · rfl

theorem managementTick_tick (s : State) : (managementTick s).tick = s.tick := by
  unfold managementTick
  split
  · exact lowerLease_tick _
  · rfl

theorem offerReport_tick (s : State) : (offerReport s).tick = s.tick := by
  unfold offerReport
  split
  · split
    · rw [select_tick]
    · rfl
  · rfl

theorem lowerTimer_tick (s : State) : (lowerTimer s).tick = s.tick := by
  unfold lowerTimer retryRunsOut retransmit
  repeat' split
  · rw [offerReport_tick]
  · rw [endReport_eq]; rfl
  all_goals rfl

theorem reportTick_tick (s : State) : (reportTick s).tick = s.tick := by
  unfold reportTick
  split
  · exact lowerTimer_tick _
  · rfl

/-- R116: what is due expires in the order of the indices. -/
theorem takeDue_law {P : State → Prop} {s : State} (h : P s) (kept : ∀ (i : ContextIndex) (t : State), P t → P (expireIfDue i none t)) :
    P (takeDue s) := by
  have fold : ∀ (l : List ContextIndex) (t : State), P t → P (l.foldl (fun t i => expireIfDue i none t) t) := by
    intro l
    induction l with
    | nil => exact fun t h => h
    | cons i l ih => exact fun t h => ih _ (kept i t h)
  exact fold contextIndices s h

theorem takeDue_tick (s : State) : (takeDue s).tick = s.tick :=
  takeDue_law (P := fun t => t.tick = s.tick) rfl fun i t same => (TableWork.expires i none t).tick_eq.trans same

theorem settleTick_tick (s : State) : (settleTick s).tick = s.tick := by
  rw [settleTick, reportTick_tick, managementTick_tick, takeDue_tick]

/-- R116: without a due context nothing expires. -/
theorem takeDue_of_none {s : State} (none : ∀ i : ContextIndex, ∀ c ∈ s.context i, c.deadline ≠ s.tick) : takeDue s = s := by
  refine takeDue_law (P := fun t => t = s) rfl fun i t same => ?_
  subst same
  refine if_neg ?_
  simp only [due, Option.any_eq_true, beq_iff_eq, not_exists, not_and]
  exact fun c used => none i c used

/-! ### The time base (R112) -/

theorem afterAll_append (l m : List Instr) (s : State) (done : ∀ c ∈ l, ∀ t, ∃ u, exec c t = .next u) :
    afterAll (l ++ m) s = afterAll m (afterAll l s) := by
  induction l generalizing s with
  | nil => rfl
  | cons c l ih =>
    obtain ⟨u, next⟩ := done c (by simp) s
    simp only [List.cons_append, afterAll, next]
    exact ih u fun d hd => done d (List.mem_cons_of_mem _ hd)

theorem afterAll_expiries (l : List ContextIndex) (s : State) :
    afterAll (l.map (fun i => .expiry i none)) s = l.foldl (fun s i => expireIfDue i none s) s := by
  induction l generalizing s with
  | nil => rfl
  | cons i l ih => exact ih _

/-- R113: what is still outstanding, as commands. -/
theorem afterAll_settles (s : State) :
    afterAll (contextIndices.map (fun i => .expiry i none) ++ [.tick .managementUnit, .tick .reportUnit]) s =
      settleTick s := by
  rw [afterAll_append _ _ _ fun c hc t => ?_, afterAll_expiries]
  · rfl
  · obtain ⟨i, -, rfl⟩ := List.mem_map.1 hc
    exact ⟨_, rfl⟩

theorem exec_timeBase {s : State} (released : s.resetHeld = false) :
    exec (.tick .timeBase) s = .next (countTick (settleTick s)) := by
  have choice : (if s.resetHeld then s else countTick (settleTick s)) = countTick (settleTick s) := if_neg (by simp [released])
  exact congrArg Host.Outcome.next choice

/-- Settles O24. -/
theorem timeBaseCountsTheTick : Obligations.TimeBaseCountsTheTick := by
  intro s released
  have counted : countTick (settleTick s) =
      { settleTick s with tick := s.tick + 1, managementTickOwed := true, reportTickOwed := true } := by
    rw [countTick, settleTick_tick]
  refine ⟨⟨_, exec_timeBase released, ?_, rfl, rfl⟩, ?_, fun none management report => ?_⟩
  · rw [counted]
    exact BitVec.toNat_add _ _
  · rw [exec_timeBase released, counted, afterAll_settles]
  · have settled : settleTick s = s := by
      rw [settleTick, takeDue_of_none none]
      simp [managementTick, reportTick, management, report]
    rw [exec_timeBase released, counted, settled]

/-! ### The lease (R164) -/

/-- Settles O25: by the tick still to be taken, and by the lease. -/
theorem leaseFallsAndRunsOut : Obligations.LeaseFallsAndRunsOut := by
  intro s taken
  have tick {t : State} (h : managementTick s = t) : exec (.tick .managementUnit) s = .next t := congrArg _ h
  have quiet (h : leaseDue s = false) : exec .leaseRunOut s = .next s := congrArg _ (if_neg (by simp [h]))
  have runs {t : State} (h : leaseDue s = true) (h' : managementTick s = t) : exec .leaseRunOut s = .next t :=
    congrArg _ ((if_pos h).trans h')
  refine ⟨fun none => ⟨tick ?_, quiet ?_⟩, fun owed free => ⟨tick ?_, quiet ?_⟩, fun l owed held => ?_⟩
  · simp [managementTick, none]
  · simp [leaseDue, none]
  · simp [managementTick, owed, lowerLease, free, taken]
  · simp [leaseDue, free]
  · refine ⟨fun lasts => ⟨tick ?_, quiet ?_⟩, fun last => ?_⟩
    · have more : ¬l.remaining.toNat ≤ 1 := by omega
      simp [managementTick, owed, lowerLease, held, more, taken]
    · simp [leaseDue, held, lasts]
    · have freed : managementTick s = offer ⟨.lockExpired, 1#2, 0#8, none, none, none, none, none, l.holder⟩
          { taken with
            lock := none
            staging := match s.staging with
              | .opened _ => .empty
              | other => other } := by
        simp only [managementTick, owed, if_true, lowerLease, held, if_pos last, leaseRunsOut, freeLock_eq]
        simp only [discardOpen]
        cases s.staging <;> simp [taken, lockExpiredEvent]
      exact ⟨tick freed, runs (by simp [leaseDue, owed, held, last]) freed⟩

/-! ### The report frame at the arbiter (R13, R143, R144, R146) -/

section Offer

variable {node : Byte} {p : Port} {s : State} (target : s.collector.target = some (node, p)) (up : (s.port p).up = true)

include target up

/-- R13: while the transmitter sends, the frame waits. -/
theorem offerReport_waits (busy : (s.port p).sending ≠ none) : offerReport s = withReportWaiting s := by
  rw [offerReport_up target up]
  exact select_of_sending (s := withReportWaiting s) busy

/-- R13, R144: at an IDLE transmitter with nothing waiting the frame is selected at once. -/
theorem offerReport_selected (idle : (s.port p).sending = none) (empty : (s.port p).queue = [])
    (alone : ∀ r ∈ s.responses, r.port ≠ p) :
    offerReport s =
      (reportSelected (withReportWaiting s)).setPort p (sendLocal (reportFrame node (withReportWaiting s)) (s.port p)) := by
  rw [offerReport_up target up]
  exact select_report (s := withReportWaiting s) up idle alone (reportWaiting_withReportWaiting target) (Or.inl empty)

end Offer

/-! ### The report unit's timers (R146, R147, R149) -/

section Timers

variable {s : State}

theorem reportTick_of_owed (owed : s.reportTickOwed = true) : reportTick s = lowerTimer { s with reportTickOwed := false } :=
  if_pos owed

theorem reportTick_of_taken (taken : s.reportTickOwed = false) : reportTick s = s := if_neg (by simp [taken])

theorem exec_reportTick {t : State} (h : reportTick s = t) : exec (.tick .reportUnit) s = .next t := congrArg _ h

theorem exec_retry_quiet (h : retryDue s = false) : exec .retryTimerRunOut s = .next s := congrArg _ (if_neg (by simp [h]))

theorem exec_gap_quiet (h : gapDue s = false) : exec .gapTimerRunOut s = .next s := congrArg _ (if_neg (by simp [h]))

theorem exec_retry_runsOut (h : retryDue s = true) : exec .retryTimerRunOut s = .next (reportTick s) :=
  congrArg _ (if_pos h)

theorem exec_gap_runsOut (h : gapDue s = true) : exec .gapTimerRunOut s = .next (reportTick s) := congrArg _ (if_pos h)

theorem reportTick_retry_falls (owed : s.reportTickOwed = true) (phase : s.report.phase = .awaitAck)
    (lasts : 1 < s.report.retryTimer.toNat) :
    reportTick s =
      { s with reportTickOwed := false, report := { s.report with retryTimer := s.report.retryTimer - 1 } } := by
  rw [reportTick_of_owed owed]
  simp only [lowerTimer, phase]
  rw [if_neg (Nat.not_le.2 lasts)]

theorem reportTick_retry_runsOut (owed : s.reportTickOwed = true) (phase : s.report.phase = .awaitAck)
    (last : s.report.retryTimer.toNat ≤ 1) : reportTick s = retryRunsOut { s with reportTickOwed := false } := by
  rw [reportTick_of_owed owed]
  simp only [lowerTimer, phase]
  exact if_pos last

/-- R146: the retransmission is counted, and its timer stands at 0. -/
def retried (s : State) : State :=
  { s with report := { s.report with retryCount := s.report.retryCount + 1, retryTimer := 0 } }

theorem retransmit_eq (s : State) : retransmit s = offerReport (retried s) := rfl

/-- R146: below the retry limit the report is offered again. -/
theorem retryRunsOut_below (below : s.report.retryCount < s.collector.retryLimit) : retryRunsOut s = retransmit s :=
  if_pos below

/-- R147: at the retry limit it is given up. -/
theorem retryRunsOut_atLimit (limit : s.collector.retryLimit ≤ s.report.retryCount) :
    retryRunsOut s = endReport (giveUpPinned s) := if_neg (BitVec.not_lt.2 limit)

theorem reportTick_gap_falls (owed : s.reportTickOwed = true) (phase : s.report.phase = .gap)
    (lasts : 1 < s.report.gapTimer.toNat) :
    reportTick s = { s with reportTickOwed := false, report := { s.report with gapTimer := s.report.gapTimer - 1 } } := by
  rw [reportTick_of_owed owed]
  simp only [lowerTimer, phase]
  rw [if_neg (Nat.not_le.2 lasts)]

theorem reportTick_gap_runsOut (owed : s.reportTickOwed = true) (phase : s.report.phase = .gap)
    (last : s.report.gapTimer.toNat ≤ 1) : reportTick s = gapRunsOut { s with reportTickOwed := false } := by
  rw [reportTick_of_owed owed]
  simp only [lowerTimer, phase]
  exact if_pos last

end Timers

/-- R145: the report is abandoned at its port. -/
theorem abandonReport_eq (s : State) :
    abandonReport s =
      { s with
        events := s.events.map (fun e => { e with pinned := false })
        lostCount := satAdd s.lostCount s.report.captured.toNat
        report := { s.report with
          phase := .idle, captured := 0, retryCount := 0, retryTimer := 0, gapTimer := 0, records := [] } } := rfl

/-- Settles O26: the phase of the unit decides which timer runs, and its value whether it runs out. -/
theorem reportTimersFallAndRunOut : Obligations.ReportTimersFallAndRunOut := by
  refine ⟨fun s phase => ?_, fun s => ?_⟩
  · intro taken r
    refine ⟨fun none => ⟨exec_reportTick (reportTick_of_taken none), exec_retry_quiet (by simp [retryDue, none])⟩,
      fun owed lasts => ⟨exec_reportTick (reportTick_retry_falls owed phase lasts),
        exec_retry_quiet (by simp [retryDue, show 1 < s.report.retryTimer.toNat from lasts])⟩, fun owed last => ?_⟩
    have due : retryDue s = true := by simp [retryDue, owed, phase]; exact last
    have tick := reportTick_retry_runsOut owed phase last
    refine ⟨(exec_retry_runsOut due).trans (exec_reportTick rfl).symm, fun node p below target => ?_, fun limit => ?_⟩
    · have again : exec .retryTimerRunOut s = .next (offerReport (retried taken)) := by
        rw [exec_retry_runsOut due, tick, retryRunsOut_below (s := taken) below, retransmit_eq]
      rw [again]
      refine ⟨fun up busy => ?_, fun up idle empty alone mode => ?_, fun down => ?_⟩
      · rw [offerReport_waits (s := retried taken) target up busy]
        rfl
      · rw [offerReport_selected (s := retried taken) target up idle empty alone,
          reportSelected_ack (s := withReportWaiting (retried taken)) mode]
        rfl
      · rw [offerReport_down (s := retried taken) target down, abandonReport_eq]
        rfl
    · rw [exec_retry_runsOut due, tick, retryRunsOut_atLimit (s := taken) limit, endReport_eq_closeReport]
      rfl
  · intro taken r
    refine ⟨fun none => ⟨exec_reportTick (reportTick_of_taken none), exec_gap_quiet (by simp [gapDue, none])⟩,
      fun owed phase lasts => ⟨exec_reportTick ?_, exec_gap_quiet (by simp [gapDue, show 1 < s.report.gapTimer.toNat from lasts])⟩,
      fun owed phase last => ?_, fun owed notGap notAwaiting => exec_reportTick ?_,
      fun notGap => exec_gap_quiet (by simp [gapDue]; tauto), fun other => exec_retry_quiet (by simp [retryDue]; tauto)⟩
    · exact reportTick_gap_falls owed phase lasts
    · have runs := reportTick_gap_runsOut owed phase last
      exact ⟨exec_reportTick runs, (exec_gap_runsOut (by simp [gapDue, owed]; exact ⟨phase, last⟩)).trans (congrArg _ runs)⟩
    · rw [reportTick_of_owed owed]
      unfold lowerTimer
      split
      · exact absurd ‹_› notAwaiting
      · exact absurd ‹_› notGap
      all_goals rfl

/-! ### Assembly (R143) -/

theorem assemblyReady_iff (s : State) :
    assemblyReady s = true ↔ s.report.phase = .idle ∧ (∃ e ∈ s.events, e.pinned = false) ∧
      ∃ t ∈ s.collector.target, (s.port t.2).up = true := by
  simp [assemblyReady, and_assoc, Option.any_eq_true]

/-- R132: the selected events are known by their serials. -/
theorem pinEvents_eq (chosen l : List Event) :
    pinEvents chosen l = l.map (fun e =>
      if e.pinned = false ∧ ∃ x ∈ chosen, x.serial = e.serial then { e with pinned := true } else e) := by
  simp [pinEvents, isSelected]

/-- Settles O30: the built report waits or is selected at once. -/
theorem assemblyBuildsAReport : Obligations.AssemblyBuildsAReport := by
  intro s
  refine ⟨fun notReady => congrArg _ (if_neg ?_), fun node p idle unpinned target up => ?_⟩
  · rw [assemblyReady_iff]
    rintro ⟨phase, ⟨e, he, free⟩, t, ht, up⟩
    rcases notReady with other | pinned | down
    · exact other phase
    · simp [pinned e he] at free
    · simp [down t ht] at up
  · intro chosen built
    have assembles : exec .assembly s = .next (offerReport (buildReport s)) :=
      congrArg _ (if_pos ((assemblyReady_iff s).2 ⟨idle, unpinned, (node, p), target, up⟩))
    have isBuilt : withReportWaiting (buildReport s) = built := by
      simp only [withReportWaiting, buildReport, pinEvents_eq]
      rfl
    rw [assembles]
    refine ⟨fun busy => ?_, fun free empty alone => ?_⟩
    · rw [offerReport_waits (s := buildReport s) target up busy, isBuilt]
    · have selected := offerReport_selected (s := buildReport s) target up free empty alone
      rw [isBuilt] at selected
      rw [selected]
      refine ⟨fun mode => ?_, fun mode => ?_⟩
      · rw [reportSelected_ack (s := built) mode]
        rfl
      · rw [reportSelected_noAck (s := built) mode]
        rfl

end Sys2Proof.Machine
end

section
/-! SUPPORT. The common checks of a request (R158) and its answer (R161 to R163): the statements O31, O32 and O33. -/

namespace Sys2Proof.Machine

open Sys2Proof.Safety

/-! ### The answer (R161, R162) -/

/-- R21, R161: the response to a call's request, made with this own address. -/
theorem makeResponse_call (own : Byte) (c : RequestCode) (x : Call) (payload : List Byte) :
    makeResponse own (callRequest c x) payload =
      ⟨buildFrame x.source own 61#6 x.sequence payload, x.port, x.source, x.sequence, some (codeByte c), some x.tag⟩ := rfl

theorem answered_eq (c : RequestCode) (x : Call) (s u : State) (st : Status) (data : List Byte) :
    answered c x s u st data =
      { placeResponse (makeResponse s.ownAddress (callRequest c x) ([codeByte c, x.tag, statusByte st] ++ data)) u with
        cache := (⟨x.source, x.sequence, codeByte c, x.tag, [codeByte c, x.tag, statusByte st] ++ data⟩ ::
          u.cache.filter (fun e => e.source != x.source)).take 4 } := by
  have cache (r : Response) : (placeResponse r u).cache = u.cache := select_cache _ _
  have same := cache (makeResponse s.ownAddress (callRequest c x) ([codeByte c, x.tag, statusByte st] ++ data))
  rw [← same]
  rfl

section Placed

variable {r : Response} {u : State}

theorem placeResponse_waits (busy : (u.port r.port).sending ≠ none) :
    placeResponse r u = { u with responses := u.responses ++ [r] } :=
  select_of_sending (s := { u with responses := u.responses ++ [r] }) busy

theorem placeResponse_selected (up : (u.port r.port).up = true) (idle : (u.port r.port).sending = none)
    (empty : (u.port r.port).queue = []) (alone : localEmpty r.port u = true) :
    placeResponse r u = u.setPort r.port (sendLocal r.frame (u.port r.port)) := by
  have others : ∀ b ∈ u.responses, b.port ≠ r.port := by
    simp only [localEmpty, Bool.and_eq_true, Bool.not_eq_true', List.any_eq_false, beq_iff_eq] at alone
    exact alone.1
  have placed := select_response (p := r.port) (s := { u with responses := u.responses ++ [r] }) (before := u.responses)
    (after := []) up idle rfl others rfl (Or.inl empty)
  rw [List.append_nil] at placed
  exact placed

end Placed

/-- The cache and the ports are written apart. -/
theorem setPort_cache (p : Port) (q : PortState) (s : State) (l : List CacheEntry) :
    { s.setPort p q with cache := l } = ({ s with cache := l }).setPort p q := by
  cases p <;> rfl

/-- Settles O31. -/
theorem answersArePlacedAndCached : Obligations.AnswersArePlacedAndCached := by
  refine ⟨fun st => by cases st <;> rfl, fun c => ⟨codeOf_codeByte c, by cases c <;> rfl⟩, fun c x s u st data up => ?_⟩
  intro payload r cache q
  have isResponse : makeResponse s.ownAddress (callRequest c x) payload = r := makeResponse_call _ _ _ _
  have isAnswered : answered c x s u st data = { placeResponse r u with cache := cache } := by
    rw [answered_eq, isResponse]
  refine ⟨fun busy => ?_, fun idle empty alone => ?_⟩
  · rw [isAnswered, placeResponse_waits (r := r) busy]
  · rw [isAnswered, placeResponse_selected (r := r) up idle empty alone]
    exact setPort_cache x.port _ u cache

/-! ### Occupied slots and repeats (R158 checks 1 and 2, R163) -/

/-- R158 check 2: the newest entry of the requester is the one that a repeat can hit. -/
theorem cacheHit_eq_some {c : RequestCode} {x : Call} {s : State} {before after : List CacheEntry} {e : CacheEntry}
    (split : s.cache = before ++ e :: after) (others : ∀ b ∈ before, b.source ≠ x.source) (source : e.source = x.source)
    (sequence : e.sequence = x.sequence) (code : e.code = codeByte c) (tag : e.tag = x.tag) :
    cacheHit (callRequest c x) s = some e := by
  have passed : before.find? (fun e => e.source == x.source && e.sequence == x.sequence && e.code == codeByte c &&
      e.tag == x.tag) = none := by
    rw [List.find?_eq_none]
    intro b hb
    simp [others b hb]
  simp only [cacheHit, callRequest, split, List.find?_append]
  rw [passed]
  simp [source, sequence, code, tag]

/-- R158 check 1: a free response slot. -/
theorem takeRequest_of_free {r : Request} {d : Damage} {s : State} (free : s.responses.length < 2) :
    takeRequest r d s = checkRepeat r d s := if_neg (Nat.not_le.2 free)

theorem takeRequest_repeat {r : Request} {d : Damage} {s : State} {e : CacheEntry} (free : s.responses.length < 2)
    (hit : cacheHit r s = some e) : takeRequest r d s = answerRepeat e r s := by
  rw [takeRequest_of_free free, checkRepeat, hit]

/-- Settles O32: the two checks in front of every request. -/
theorem fullSlotsAndRepeats : Obligations.FullSlotsAndRepeats := by
  refine ⟨fun c x d s arrived full => ?_, fun c x d s before after e arrived free split others source sequence code tag => ?_⟩
  · rw [exec_requestInstr_arrives d arrived, takeRequest_of_full full]
  · intro waits
    have hit := cacheHit_eq_some split others source sequence code tag
    have already : waitsAlready e s = true ↔ waits := by
      simp [waitsAlready, waits, source, sequence, code, tag, and_assoc]
    rw [exec_requestInstr_arrives d arrived, takeRequest_repeat free hit, answerRepeat]
    exact ⟨fun h => by rw [if_pos (already.2 h)], fun h => by rw [if_neg (mt already.1 h), makeResponse_call]⟩

/-! ### Refusals (R158 checks 3 and 6 to 8) -/

section Refusals

variable {c : RequestCode} {x : Call} {d : Damage} {s : State}

/-- R158 checks 4 and 5: the other requests go on to the check of the manager list. -/
theorem exec_requestInstr_authority (notIdentify : c ≠ .identify) (notAck : c ≠ .reportAck) (arrived : arrives x s)
    (new : fresh c x s) :
    exec (requestInstr c x d) s = .next (checkAuthority c (callRequest c x) x.params d s) := by
  rw [exec_requestInstr_arrives d arrived, ← requestCommand_arrives arrived, requestCommand_fresh arrived new]
  cases c <;> first | rfl | contradiction

theorem managerAdmits_iff : managerAdmits x.source s = true ↔ listAdmits x s := by
  simp [managerAdmits, List.isEmpty_iff]

theorem lockAdmits_iff : lockAdmits c x.source s = true ↔ (authority c = .lock → holds x s) := by
  unfold lockAdmits
  split <;> simp_all [holder, holds]

theorem nodeByte_holder (s : State) : nodeByte (holder s) = (s.lock.map Lease.holder).getD 255#8 := by
  unfold holder nodeByte
  cases s.lock.map Lease.holder <;> rfl

theorem codeOf_eq_none {code : Byte} (unknown : ∀ c : RequestCode, codeByte c ≠ code) : codeOf code = none := by
  rw [codeOf, List.find?_eq_none]
  intro c _
  simpa using unknown c

end Refusals

/-- Settles O33: the tables, then the checks in their order. -/
theorem requestsAreRefusedInOrder : Obligations.RequestsAreRefusedInOrder := by
  refine ⟨fun c => by cases c <;> decide, fun c n => by cases c <;> simp [acceptsLength],
    fun c x d s notIdentify notAck arrived new => ?_, fun r d s free => ⟨fun short => ?_, fun code tag params payload unknown
      fresh => ?_⟩⟩
  · rw [exec_requestInstr_authority notIdentify notAck arrived new]
    have next {t u : State} (h : t = u) : (.next t : Host.Outcome State Fault Refusal) = .next u := by rw [h]
    refine ⟨fun denied => next ?_, fun admitted locked notHolder => next ?_, fun admitted holding length => next ?_⟩
    · have refused : managerAdmits x.source s = false := Bool.eq_false_iff.2 (mt managerAdmits_iff.1 denied)
      exact if_pos (by simp [callRequest, refused])
    · have refused : lockAdmits c x.source s = false :=
        Bool.eq_false_iff.2 fun admits => notHolder (lockAdmits_iff.1 admits locked)
      rw [checkAuthority, if_neg (by simpa [callRequest, managerAdmits_iff] using admitted),
        if_pos (by simp [callRequest, refused]), nodeByte_holder]
      rfl
    · rw [checkAuthority, if_neg (by simpa [callRequest, managerAdmits_iff] using admitted),
        if_neg (by simpa [callRequest, lockAdmits_iff] using holding), if_pos (by simp [length])]
      rfl
  · obtain ⟨port, source, sequence, payload⟩ := r
    have noHit : cacheHit ⟨port, source, sequence, payload⟩ s = none := by
      match payload, short with
      | [], _ => rfl
      | [_], _ => rfl
    rw [takeRequest_of_free free, checkRepeat, noHit]
    match payload, short with
    | [], _ => rfl
    | [_], _ => rfl
  · have noHit : cacheHit r s = none := by
      simp only [cacheHit, payload, List.find?_eq_none]
      simpa using fresh
    rw [takeRequest_of_free free, checkRepeat, noHit]
    simp only [checkForm, payload, codeOf_eq_none unknown]

end Sys2Proof.Machine
end

section
/-! SUPPORT. The requests of the management unit (R157, R160, R166, R169) and SET_MODE (R39): the statements O34, O36 and
O38. -/

namespace Sys2Proof.Machine

open Sys2Proof.Safety

/-! ### The renewal touches the lock alone (R158 check 9) -/

theorem renewed_eq (x : Call) (s : State) : renewed x s = { s with lock := (renewed x s).lock } := by
  unfold renewed
  split <;> rfl

/-- R158: a request that only the holder may make, with an accepted parameter length. -/
theorem exec_requestInstr_commands {c : RequestCode} {x : Call} {s : State} (may : mayCommand c x s)
    (carried : c ≠ .identify ∧ c ≠ .reportAck ∧ c ≠ .restart) (len : acceptsLength c x.params.length = true) :
    exec (requestInstr c x none) s = .next (answersWith c x s (perform c x.source x.params none (renewed x s))) :=
  exec_requestInstr_performs may.1 carried (fun _ => may.2) len

/-! ### IDENTIFY (R169) -/

theorem exec_identify {x : Call} {s : State} (arrived : arrives x s) (new : fresh .identify x s) :
    exec (.identify x) s = .next (answered .identify x s s .ok (identityBytes s)) := by
  have request : exec (.identify x) s = .next (requestCommand .identify x none s) := exec_requestInstr .identify x s
  rw [request, requestCommand_fresh arrived new]
  rfl

/-- R169: four places, FFh in each that is not used. -/
theorem managerBytes_eq (l : List Byte) : managerBytes l = (l ++ [255#8, 255#8, 255#8, 255#8]).take 4 := by
  have fill : [255#8, 255#8, 255#8, 255#8] = List.replicate 4 0xFF#8 := rfl
  simp only [managerBytes, Config.managerNodes, fill, List.take_append, List.take_replicate, Nat.min_self]
  congr 2
  omega

/-- Settles O34. -/
theorem identifyReportsThePart : Obligations.IdentifyReportsThePart := by
  intro x s arrived new
  rw [exec_identify arrived new]
  simp only [identityBytes, managerBytes_eq, holder, leaseLength, leaseRemaining]
  cases s.faultLatch with
  | none => cases s.lock <;> rfl
  | some l => cases l <;> cases s.lock <;> rfl

/-! ### RELEASE, SET_ADDRESS and SET_MANAGERS (R157, R160, R166) -/

/-- Settles O36. -/
theorem lockAddressAndListAreChanged : Obligations.LockAddressAndListAreChanged := by
  have next {t u : State} (h : t = u) : (.next t : Host.Outcome State Fault Refusal) = .next u := by rw [h]
  refine ⟨fun x s may none => ?_, fun x a s may one => ?_, fun x s may few => ?_⟩
  · have run : exec (.release x) s = .next (answersWith .release x s (performRelease (renewed x s))) :=
      exec_requestInstr_commands may (by decide) (by rw [none]; rfl)
    rw [run, performRelease, freeLock_eq, renewed_eq]
    cases s.staging <;> simp [discardOpen, stagingOpen, flagByte]
  · have run : exec (.setAddress x) s = .next (answersWith .setAddress x s (performSetAddress [a] (renewed x s))) :=
      one ▸ exec_requestInstr_commands may (by decide) (by rw [one]; rfl)
    rw [run]
    refine ⟨fun all => next ?_, fun node => next ?_⟩
    · simp [performSetAddress, Config.broadcast, all]
    · simp [performSetAddress, Config.broadcast, node]
  · have run : exec (.setManagers x) s =
        .next (answersWith .setManagers x s (performSetManagers x.source x.params (renewed x s))) :=
      exec_requestInstr_commands may (by decide) (by simpa [acceptsLength] using few)
    intro u
    rw [run]
    refine ⟨fun all => next ?_, fun nodes twice => next ?_, fun nodes once some without => next ?_,
      fun nodes once may => next ?_⟩
    · simp [performSetManagers, Config.broadcast, all, u]
    · have clash : distinct x.params = false := Bool.eq_false_iff.2 (mt (distinct_iff_nodup _).1 twice)
      simp [performSetManagers, Config.broadcast, nodes, clash, u]
    · simp [performSetManagers, Config.broadcast, nodes, (distinct_iff_nodup _).2 once, some, without, u]
    · have known : ¬(x.params ≠ [] ∧ x.source ∉ x.params) := by tauto
      have named : (!x.params.isEmpty && !x.params.contains x.source) = false := by
        rw [Bool.eq_false_iff]
        simpa using known
      have count : min 255 x.params.length = x.params.length := by omega
      simp only [performSetManagers, named, (distinct_iff_nodup _).2 once]
      simp [Config.broadcast, nodes, u, countByte, count]

/-! ### SET_MODE (R31, R32, R39) -/

theorem parseMode_eq_none {b : Byte} : parseMode b = none ↔ 2 < b.toNat := by
  revert b
  decide

theorem changeMode_same {m : Mode} {s : State} (same : m = s.mode) : changeMode m s = (s, 0) := if_pos same

theorem changeMode_awake {m : Mode} {s : State} (other : m ≠ s.mode) (awake : m ≠ .bypass) :
    changeMode m s = (offer (modeChangedEvent m 0) { s with mode := m }, 0) := by
  rw [changeMode, if_neg other, if_neg awake]

/-- R32: the change to BYPASS ends every context, and tells their number. -/
theorem changeMode_bypass {s : State} (other : Mode.bypass ≠ s.mode) :
    changeMode .bypass s =
      (offer (modeChangedEvent .bypass (countContexts (fun _ => true) s))
        (offerAll (changeToBypass .mode s).events (changeToBypass .mode s).state), countContexts (fun _ => true) s) := by
  have count : (changeToBypass .mode s).count = countContexts (fun _ => true) s := by
    rw [changeToBypass, endContexts_count]
    exact countContexts_congr rfl
  simp only [changeMode, if_neg other, if_true, count]

/-- Settles O38: what the two bytes read as, the latch, and whether the mode changes. -/
theorem setModeChangesTheMode : Obligations.SetModeChangesTheMode := by
  have next {t u : State} (h : t = u) : (.next t : Host.Outcome State Fault Refusal) = .next u := by rw [h]
  intro x m a s may two u was
  have run : exec (.setMode x) s = .next (answersWith .setMode x s (performSetMode [m, a] u)) :=
    two ▸ exec_requestInstr_commands may (by decide) (by rw [two]; rfl)
  have latch : u.faultLatch = s.faultLatch := renewed_faultLatch x s
  have mode : u.mode = s.mode := renewed_mode x s
  have contexts : countContexts (fun _ => true) u = countContexts (fun _ => true) s :=
    countContexts_congr (renewed_contexts x s)
  rw [run]
  refine ⟨fun range => next ?_, fun awake action faulted => next ?_, fun m' action isMode isAction allowed => ?_⟩
  · have refused : performSetMode [m, a] u = refuse .outOfRange u := by
      unfold performSetMode
      rcases range with range | range
      · simp only [parseMode_eq_none.2 range]
      · simp only [parseVerdict_eq_none.2 range]
        cases parseMode m <;> rfl
    rw [refused, answersWith_refuse]
  · obtain ⟨v, isVerdict⟩ : ∃ v, parseVerdict a = some v :=
      Option.ne_none_iff_exists'.1 fun none => absurd (parseVerdict_eq_none.1 none) (Nat.not_lt.2 action)
    have refused : performSetMode [m, a] u = refuse .faulted u := by
      have set : u.faultLatch.isSome = true := by rw [latch]; exact Option.isSome_iff_ne_none.2 faulted
      rcases awake with rfl | rfl <;> simp [performSetMode, parseMode, isVerdict, set]
    rw [refused, answersWith_refuse]
  · have modeRead : parseMode m = some m' := by
      rw [isMode]
      cases m' <;> rfl
    have verdictRead : parseVerdict a = some action := by
      rw [isAction]
      cases action <;> rfl
    have isWas : modeByte u.mode = was := by
      rw [mode]
      simp only [was]
      cases s.mode <;> rfl
    have mayChange : ¬(m' ≠ .bypass ∧ u.faultLatch.isSome = true) := by
      rintro ⟨awake, set⟩
      rw [latch, allowed.resolve_left awake] at set
      cases set
    have read : performSetMode [m, a] u =
        ⟨(changeMode m' { u with defaultAction := action }).1, .ok,
          [was, countByte (changeMode m' { u with defaultAction := action }).2]⟩ := by
      simp only [performSetMode, modeRead, verdictRead, if_neg mayChange, isWas]
    intro v
    rw [read, answersWith_mk]
    refine ⟨fun same => next ?_, fun other awake => next ?_, fun other bypass => ?_⟩
    · rw [changeMode_same (s := v) (same.trans mode.symm)]
      rfl
    · have event : modeChangedEvent m' 0 = ⟨.modeChanged, 1#2, m, none, none, none, none, none, 0#8⟩ := by
        rw [isMode]
        cases m' <;> rfl
      rw [changeMode_awake (s := v) (fun e => other (e.trans mode)) awake, event]
      rfl
    · intro e n
      subst bypass
      have count : countContexts (fun _ => true) v = countContexts (fun _ => true) s :=
        (countContexts_congr rfl).trans contexts
      rw [changeMode_bypass (s := v) (fun e => other (e.trans mode)), count]
      have ended : changeToBypass .mode v = e := by simp only [changeToBypass, e]
      have told : modeChangedEvent .bypass (countContexts (fun _ => true) s) =
          ⟨.modeChanged, 1#2, 0#8, none, none, none, none, none, n⟩ := rfl
      have number : countByte (countContexts (fun _ => true) s) = n := rfl
      rw [ended, told, number]

end Sys2Proof.Machine
end

section
/-! SUPPORT. RESTART (R151, R171), block by block: the statement O37. -/

namespace Sys2Proof.Machine

open Sys2Proof.Safety

/-! ### The settling of the collector port's count (R12, R14) -/

theorem settleCollectorPort_eq (s : State) :
    settleCollectorPort s =
      { s with portA := (settleCollectorPort s).portA, portB := (settleCollectorPort s).portB } := by
  unfold settleCollectorPort
  split
  · rename_i p _
    rw [settleCount_eq]
    cases p <;> rfl
  · rfl

theorem localEmpty_iff_alone {p : Port} {s : State} (idle : s.report.phase ≠ .queued) :
    localEmpty p s = true ↔ ∀ r ∈ s.responses, r.port ≠ p := by
  simp [localEmpty, reportWaiting_of_phase idle]

/-- R14: the collector port's count becomes 0 where no response waits there. -/
theorem settleCollectorPort_port {s : State} (idle : s.report.phase ≠ .queued) (p : Port) :
    (settleCollectorPort s).port p =
      if s.collector.target.map Prod.snd = some p ∧ ∀ r ∈ s.responses, r.port ≠ p then
        { s.port p with consecutive := 0 }
      else s.port p := by
  unfold settleCollectorPort
  split
  · rename_i node q target
    rw [settleCount_eq, target]
    by_cases here : p = q
    · subst here
      rw [State.modifyPort_port_same]
      simp only [localEmpty_iff_alone idle, Option.map_some, true_and]
      split <;> rfl
    · rw [if_neg fun h => here (Option.some.inj h.1).symm]
      exact State.setPort_port_ne here _ _
  · rename_i target
    rw [target, if_neg (by simp)]

/-! ### The report unit (R151) -/

theorem startPhase_eq (c : Collector) : startPhase c = if c.target = none then .off else .idle := by
  unfold startPhase
  cases c.target <;> rfl

/-- R151: the unit as it starts again. -/
def startedReport (s : State) : ReportUnit :=
  { s.report with
    phase := startPhase s.collector, captured := 0, retryCount := 0, retryTimer := 0, gapTimer := 0, records := []
    staleAcks := 0, foreignAcks := 0 }

theorem restartReport_eq (s : State) :
    restartReport s =
      if s.report.phase = .queued then settleCollectorPort { s with report := startedReport s }
      else { s with report := startedReport s } := by
  simp only [restartReport]
  split <;> rename_i phase
  · rw [if_pos phase]; rfl
  all_goals rw [if_neg (by simp [phase])]; rfl

theorem restartReport_frame (s : State) :
    restartReport s =
      { s with
        portA := (restartReport s).portA, portB := (restartReport s).portB, report := startedReport s } := by
  rw [restartReport_eq]
  split
  · rw [settleCollectorPort_eq]
  · rfl

theorem restartReport_port (s : State) (p : Port) :
    (restartReport s).port p =
      { s.port p with
        consecutive :=
          if s.report.phase = .queued ∧ s.collector.target.map Prod.snd = some p ∧ ∀ r ∈ s.responses, r.port ≠ p then 0
          else (s.port p).consecutive } := by
  rw [restartReport_eq]
  by_cases queued : s.report.phase = .queued
  · have started : ({ s with report := startedReport s } : State).report.phase ≠ .queued := startPhase_ne_queued _
    rw [if_pos queued, settleCollectorPort_port started]
    simp only [queued, true_and]
    split <;> rfl
  · rw [if_neg queued, if_neg fun h => queued h.1]
    rfl

/-! ### The dialogues (R48, R83) -/

/-- R48 steps 1 and 2: the staging buffer discarded, every context ended. -/
def restartEnds (s : State) : State := (endContexts (fun _ => true) .restart (discardStaging s)).state

theorem discardStaging_eq (s : State) :
    discardStaging s = { s with slots := (discardStaging s).slots, staging := .empty } := by
  unfold discardStaging
  split <;> rename_i staging
  · rfl
  · rfl
  · rw [← staging]

theorem restartEnds_eq (s : State) :
    restartEnds s =
      { s with contexts := (restartEnds s).contexts, slots := (restartEnds s).slots, staging := .empty } := by
  have quiet : (restartEnds s).staging = .empty := by
    rw [restartEnds, (endContexts_quiet fun k img old pending => ?_).2, discardStaging_staging]
    rw [discardStaging_staging] at pending
    cases pending
  have ends : restartEnds s = { discardStaging s with
      contexts := (restartEnds s).contexts, slots := (restartEnds s).slots, staging := (restartEnds s).staging } := by
    rw [restartEnds]
    exact endContexts_eq _ _ _
  rw [quiet, discardStaging_eq] at ends
  exact ends

theorem restartEnds_context (s : State) (i : ContextIndex) : (restartEnds s).context i = none := by
  rw [restartEnds, endContexts_context]
  cases (discardStaging s).context i <;> rfl

/-- R44: the target of a PENDING buffer resumes its program. -/
theorem discardStaging_slot_target {s : State} {k : SlotIndex} {img : Image} (pending : s.staging = .pending img k) :
    (discardStaging s).slot k = resumeSlot (s.slot k) := by
  simp only [discardStaging, pending]
  exact State.modifySlot_slot_same _ _ _

theorem discardStaging_slot_other {s : State} {k : SlotIndex} (other : ∀ img, s.staging ≠ .pending img k) :
    (discardStaging s).slot k = s.slot k := by
  unfold discardStaging
  split
  · rename_i img target pending
    exact State.modifySlot_slot_ne (fun same : k = target => other img (same ▸ pending)) _ _
  · rfl
  · rfl

theorem resumeSlot_eq (x : Slot) :
    resumeSlot x = { x with status := (resumeSlot x).status } ∧ (resumeSlot x).status.image = x.status.image := by
  unfold resumeSlot
  split <;> rename_i status
  · exact ⟨rfl, by rw [status]; rfl⟩
  · exact ⟨rfl, rfl⟩
  · exact ⟨rfl, rfl⟩

/-- R44: a discard changes at most the status of a slot, and keeps its image. -/
theorem discardStaging_slot (s : State) (k : SlotIndex) :
    (discardStaging s).slot k = { s.slot k with status := ((discardStaging s).slot k).status } ∧
      ((discardStaging s).slot k).status.image = (s.slot k).status.image := by
  by_cases target : ∃ img, s.staging = .pending img k
  · obtain ⟨img, pending⟩ := target
    rw [discardStaging_slot_target pending]
    exact resumeSlot_eq _
  · rw [discardStaging_slot_other (not_exists.1 target)]
    exact ⟨rfl, rfl⟩

/-- R48, R83: a slot after the ends of a restart. -/
theorem restartEnds_slot (s : State) (k : SlotIndex) :
    ∃ total, (restartEnds s).slot k =
      losses .restart (countContexts (ofSlot k) s)
        (countContexts (fun c => ofSlot k c && (s.slot k).status.alarmState c.state) s) total
        { s.slot k with status := ((discardStaging s).slot k).status } := by
  have contexts : (discardStaging s).contexts = s.contexts := by rw [discardStaging_eq]
  have slot := discardStaging_slot s k
  have ended := endContexts_slot (which := fun _ => true) (r := .restart) (s := discardStaging s) (k := k)
    fun img old pending => by
      rw [discardStaging_staging] at pending
      cases pending
  have all : endsIn (fun _ => true) k = ofSlot k := by
    funext c
    simp [endsIn, ofSlot]
  have alarms : alarmsIn (fun _ => true) k ((discardStaging s).slot k).status =
      fun c => ofSlot k c && (s.slot k).status.alarmState c.state := by
    funext c
    simp [alarmsIn, ofSlot, SlotStatus.alarmState, slot.2]
  rw [all, alarms, countContexts_congr contexts, countContexts_congr contexts, countContexts_congr contexts] at ended
  rw [← slot.1]
  exact ⟨_, ended⟩

/-! ### The whole restart (R171) -/

/-- R48 step 3, R126: after the ends, the flags cleared and the queue emptied. -/
def restartCleared (s : State) : State := { (restartEnds s).modifySlots clearFlags with events := [], lostCount := 0 }

theorem restartCleared_eq (s : State) :
    restartCleared s =
      { s with
        slots := (restartCleared s).slots, contexts := (restartEnds s).contexts, events := [], lostCount := 0
        staging := .empty } := by
  have ends := restartEnds_eq s
  unfold restartCleared
  generalize restartEnds s = u at ends
  rw [ends]
  rfl

theorem clearHits_entries_congr {s t : State} (h : t.entries = s.entries) :
    t.clearHits.entries = s.clearHits.entries := by simp only [State.clearHits, h]

/-- R171: the counters, the hit counters and the management unit's own items. -/
def restartLast (s : State) : State :=
  restartManagement ((clearPortCounters .b (clearPortCounters .a s)).clearHits)

theorem restartLast_eq (s : State) :
    restartLast s =
      { s with
        portA := { s.portA with counters := .zero }, portB := { s.portB with counters := .zero }
        entries := s.clearHits.entries, lock := none, cache := [], overruns := 0, resetCause := .restart } := by
  have hits (u : State) : u.clearHits = { u with entries := u.clearHits.entries } := rfl
  have entries : (clearPortCounters .b (clearPortCounters .a s)).clearHits.entries = s.clearHits.entries := rfl
  rw [restartLast, hits, entries]
  generalize s.clearHits.entries = cleared
  rfl

theorem restartPart_eq (s : State) : restartPart s = restartLast (restartReport (restartCleared s)) := rfl

/-- R171: what a restart writes, and what it keeps. -/
theorem restartPart_frame (s : State) :
    restartPart s =
      { s with
        portA := { (restartReport (restartCleared s)).portA with counters := .zero }
        portB := { (restartReport (restartCleared s)).portB with counters := .zero }
        entries := s.clearHits.entries, slots := (restartCleared s).slots, contexts := (restartEnds s).contexts
        events := [], lostCount := 0, report := startedReport s, lock := none, cache := [], overruns := 0
        resetCause := .restart, staging := .empty } := by
  have cleared := restartCleared_eq s
  have report := restartReport_frame (restartCleared s)
  have started : startedReport (restartCleared s) = startedReport s := by
    rw [cleared]
    simp only [startedReport]
  have hits : (restartReport (restartCleared s)).clearHits.entries = s.clearHits.entries :=
    clearHits_entries_congr (by rw [report, cleared])
  rw [started] at report
  rw [restartPart_eq, restartLast_eq, hits]
  generalize s.clearHits.entries = entries
  generalize restartReport (restartCleared s) = u at report
  rw [report]
  generalize restartCleared s = v at cleared
  rw [cleared]

theorem restartPart_port (s : State) (p : Port) :
    (restartPart s).port p =
      { s.port p with
        counters := .zero
        consecutive :=
          if s.report.phase = .queued ∧ s.collector.target.map Prod.snd = some p ∧ ∀ r ∈ s.responses, r.port ≠ p then 0
          else (s.port p).consecutive } := by
  have cleared := restartCleared_eq s
  have port : (restartPart s).port p = { (restartReport (restartCleared s)).port p with counters := .zero } := by
    rw [restartPart_frame]
    generalize s.clearHits.entries = entries
    generalize restartReport (restartCleared s) = u
    cases p <;> rfl
  rw [port, restartReport_port]
  generalize restartCleared s = v at cleared
  rw [cleared]
  cases p <;> rfl

theorem restartPart_slot (s : State) (k : SlotIndex) : (restartPart s).slot k = clearFlags ((restartEnds s).slot k) := by
  have slots : (restartPart s).slots = ((restartEnds s).modifySlots clearFlags).slots := by
    rw [restartPart_frame, restartCleared]
  rw [State.slot_congr slots, State.modifySlots_slot_same]

theorem restartPart_context (s : State) (i : ContextIndex) : (restartPart s).context i = none := by
  have contexts : (restartPart s).contexts = (restartEnds s).contexts := by rw [restartPart_frame]
  rw [State.context_congr contexts, restartEnds_context]

theorem restartPart_entry (s : State) (i : EntryIndex) : (restartPart s).entry i = { s.entry i with hits := 0 } := by
  have entries : (restartPart s).entries = s.clearHits.entries := by rw [restartPart_frame]
  rw [State.entry_congr entries, State.clearHits_entry]

/-! ### An answer does not touch the links (R8, R13) -/

/-- The two say the same of the link and of reception. -/
def SameLink (q r : PortState) : Prop := q.up = r.up ∧ q.receiving = r.receiving

theorem modifyPort_sameLink {p : Port} {f : PortState → PortState} (keeps : ∀ q, SameLink (f q) q) (s : State) (p' : Port) :
    SameLink ((s.modifyPort p f).port p') (s.port p') := by
  by_cases same : p' = p
  · rw [same, State.modifyPort_port_same]
    exact keeps _
  · rw [State.modifyPort, State.setPort_port_ne same]
    exact ⟨rfl, rfl⟩

theorem reportSelected_port (s : State) (p : Port) : (reportSelected s).port p = s.port p := by
  rw [reportSelected_eq]
  cases p <;> rfl

theorem startLocal_sameLink (p : Port) (frame : List Byte) (s : State) (p' : Port) :
    SameLink ((startLocal p frame s).port p') (s.port p') := by
  refine modifyPort_sameLink ?_ s p'
  exact fun q => ⟨rfl, rfl⟩

theorem startTransit_sameLink (p : Port) (frame : List Byte) (rest : List (List Byte)) (s : State) (p' : Port) :
    SameLink ((startTransit p frame rest s).port p') (s.port p') := by
  refine modifyPort_sameLink ?_ s p'
  exact fun q => ⟨rfl, rfl⟩

theorem select_sameLink (p : Port) (s : State) (p' : Port) : SameLink ((select p s).port p') (s.port p') := by
  unfold select makeSelection
  repeat' split
  · exact startLocal_sameLink p _ { s with responses := s.responses.eraseP (fun x => x.port == p) } p'
  · rw [reportSelected_port]
    exact startLocal_sameLink p _ s p'
  · exact startTransit_sameLink p _ _ s p'
  · exact ⟨rfl, rfl⟩
  · exact ⟨rfl, rfl⟩

theorem answered_sameLink (c : RequestCode) (x : Call) (s u : State) (st : Status) (data : List Byte) (p : Port) :
    SameLink ((answered c x s u st data).port p) (u.port p) := by
  rw [answered_eq]
  have placed := select_sameLink x.port { u with responses := u.responses ++
    [makeResponse s.ownAddress (callRequest c x) ([codeByte c, x.tag, statusByte st] ++ data)] } p
  cases p <;> exact placed

/-- R171: the answer first, then the restart. -/
theorem exec_restart {x : Call} {s : State} (may : mayCommand .restart x s) (none : x.params = []) :
    exec (.restart x) s = .next (restartPart (answered .restart x s (renewed x s) .ok [])) := by
  have request : exec (.restart x) s = .next (requestCommand .restart x Option.none s) := exec_requestInstr .restart x s
  rw [request, requestCommand_passes may.1 (by decide) (by decide) (fun _ => may.2) (by rw [none]; rfl)]
  simp only [carryOut, answered, renewed_ownAddress]

/-- Settles O37. -/
theorem restartClearsTheRunningState : Obligations.RestartClearsTheRunningState := by
  intro x s may none u
  have slots : u.slots = s.slots := by simp [u]
  have contexts : u.contexts = s.contexts := by simp [u]
  have staging : u.staging = s.staging := by simp [u]
  have slot (k : SlotIndex) : ∃ total, (restartPart u).slot k = clearFlags (losses .restart (countContexts (ofSlot k) s)
      (countContexts (fun c => ofSlot k c && (s.slot k).status.alarmState c.state) s) total
      { s.slot k with status := ((discardStaging u).slot k).status }) := by
    obtain ⟨total, ends⟩ := restartEnds_slot u k
    rw [countContexts_congr contexts, countContexts_congr contexts, State.slot_congr slots] at ends
    exact ⟨total, by rw [restartPart_slot, ends]⟩
  have counters (k : SlotIndex) : ((restartPart u).slot k).counters =
      { (s.slot k).counters with
        endedOtherwise := satAdd (s.slot k).counters.endedOtherwise (countContexts (fun c => c.slot == k) s) } := by
    obtain ⟨total, slot⟩ := slot k
    rw [slot]
    rfl
  have status (k : SlotIndex) : ((restartPart u).slot k).status = ((discardStaging u).slot k).status := by
    obtain ⟨total, slot⟩ := slot k
    rw [slot]
    rfl
  have steady (k : SlotIndex) (rests : resumeSlot (s.slot k) = s.slot k) : ((restartPart u).slot k).status = (s.slot k).status := by
    rw [status]
    by_cases target : ∃ img, u.staging = .pending img k
    · obtain ⟨img, pending⟩ := target
      rw [discardStaging_slot_target pending, State.slot_congr slots, rests]
    · rw [discardStaging_slot_other (not_exists.1 target), State.slot_congr slots]
  refine ⟨restartPart u, exec_restart may none, restartPart_context u, fun k => ?_, fun k empty => ?_, fun k counts => ?_,
    fun k img active => ?_, fun k img old pending draining => ?_, fun k alone => ?_, counters, fun i => ?_, ?_⟩
  · obtain ⟨total, slot⟩ := slot k
    rw [slot]
    exact ⟨rfl, rfl, rfl⟩
  · rw [steady k (by simp only [resumeSlot, empty]), empty]
  · obtain ⟨total, slot⟩ := slot k
    obtain ⟨count, alarms⟩ := counts
    rw [slot]
    simp only [clearFlags, losses, ← count, ← alarms, Nat.sub_self, and_self]
  · rw [steady k (by simp only [resumeSlot, active]), active]
  · rw [status, discardStaging_slot_target (staging.trans pending), State.slot_congr slots]
    simp only [resumeSlot, draining]
  · have noEnd : countContexts (fun c => c.slot == k) s = 0 :=
      countContexts_eq_zero.2 fun i c hc => by simpa using alone i c hc
    rw [counters, noEnd, satAdd_zero]
  · rw [restartPart_entry, State.entry_congr (show u.entries = s.entries by simp [u])]
  · have frame := restartPart_frame u
    have ports := restartPart_port u
    have link (p : Port) : SameLink (u.port p) (s.port p) := by
      have answer := answered_sameLink .restart x s (renewed x s) .ok [] p
      rwa [renewed_port] at answer
    have collector : u.collector = s.collector := by simp [u]
    generalize restartPart u = t at frame ports
    have phase : t.report.phase = if s.collector.target = Option.none then .off else .idle := by
      rw [frame, ← collector]
      exact startPhase_eq _
    rw [collector] at ports
    have atPort (p : Port) : (t.port p).up = (s.port p).up ∧ (t.port p).receiving = (s.port p).receiving := by
      rw [ports p]
      exact link p
    refine ⟨by rw [frame], by rw [frame], ?_, by rw [frame], phase, by rw [frame]; rfl, by rw [frame]; rfl, by rw [frame]; rfl,
      by rw [frame]; rfl, by rw [frame]; rfl, by rw [frame]; rfl, by rw [frame]; rfl, by rw [frame]; rfl, by rw [frame],
      by rw [frame], by rw [frame], by rw [frame], by rw [frame], ?_, ?_, ?_, ?_, ?_, ?_, ?_, ?_, ?_, ?_, ?_,
      fun p => ⟨(atPort p).1, (atPort p).2, by rw [ports p], by rw [ports p], by rw [ports p]; rfl, by rw [ports p]⟩⟩
    all_goals
      rw [frame]
      simp [u]

end Sys2Proof.Machine
end

section
/-! SUPPORT. The requests of the event block and of the report unit (R134, R136, R137, R141, R152): the statements O50,
O51 and O53. -/

namespace Sys2Proof.Machine

open Sys2Proof.Safety

/-! ### The current report is abandoned (R141 step 1) -/

theorem dropCurrent_eq (s : State) :
    dropCurrent s =
      if s.report.phase = .queued then settleCollectorPort (abandonReport s)
      else if s.report.phase = .awaitAck then abandonReport s else s := by
  unfold dropCurrent
  split <;> rename_i phase <;> simp [phase]

theorem dropCurrent_frame (s : State) :
    dropCurrent s =
      { s with
        portA := (dropCurrent s).portA, portB := (dropCurrent s).portB, events := (dropCurrent s).events
        lostCount := (dropCurrent s).lostCount, report := (dropCurrent s).report } := by
  rw [dropCurrent_eq]
  repeat' split
  · rw [settleCollectorPort_eq, abandonReport_eq]
  · rw [abandonReport_eq]
  · rfl

/-- R133, abandoned. -/
theorem dropCurrent_of_current {s : State} (current : s.report.phase = .queued ∨ s.report.phase = .awaitAck) :
    (dropCurrent s).events = s.events.map (fun e => { e with pinned := false }) ∧
      (dropCurrent s).lostCount = satAdd s.lostCount s.report.captured.toNat := by
  rw [dropCurrent_eq]
  rcases current with queued | awaits
  · rw [if_pos queued, settleCollectorPort_eq, abandonReport_eq]
    exact ⟨rfl, rfl⟩
  · rw [if_neg (by simp [awaits]), if_pos awaits, abandonReport_eq]
    exact ⟨rfl, rfl⟩

theorem dropCurrent_of_none {s : State} (none : ¬(s.report.phase = .queued ∨ s.report.phase = .awaitAck)) :
    dropCurrent s = s := by
  rw [not_or] at none
  rw [dropCurrent_eq, if_neg none.1, if_neg none.2]

/-- R14: a frame withdrawn from the collector port may empty its local group. -/
theorem dropCurrent_port (s : State) (p : Port) :
    (dropCurrent s).port p =
      if s.report.phase = .queued ∧ s.collector.target.map Prod.snd = some p ∧ ∀ r ∈ s.responses, r.port ≠ p then
        { s.port p with consecutive := 0 }
      else s.port p := by
  have abandoned : (abandonReport s).port p = s.port p := by cases p <;> rfl
  rw [dropCurrent_eq]
  by_cases queued : s.report.phase = .queued
  · rw [if_pos queued, settleCollectorPort_port (by rw [abandonReport_eq]; nofun), abandoned]
    simp only [queued, true_and]
    rfl
  · have noSettling : ¬(s.report.phase = .queued ∧ s.collector.target.map Prod.snd = some p ∧ ∀ r ∈ s.responses, r.port ≠ p) :=
      fun h => queued h.1
    rw [if_neg queued, if_neg noSettling]
    split
    · exact abandoned
    · rfl

/-- R141: the records and timers of the unit go, whether a report was current or not; the serial and the counts of
acknowledgements stay. -/
theorem dropCurrent_report (s : State) (ph : ReportPhase) (gap : Word16) :
    (closeReport ph gap (dropCurrent s)).report = (closeReport ph gap s).report := by
  rw [dropCurrent_eq]
  repeat' split
  · rw [settleCollectorPort_eq]; rfl
  · rfl
  · rfl

/-! ### SET_COLLECTOR (R141) -/

theorem phaseByte_eq (ph : ReportPhase) :
    phaseByte ph = match ph with
      | .off => 0#8
      | .idle => 1#8
      | .queued => 2#8
      | .awaitAck => 3#8
      | .gap => 4#8 := by cases ph <;> rfl

theorem reportCurrent_iff (ph : ReportPhase) : reportCurrent ph = true ↔ ph = .queued ∨ ph = .awaitAck := by
  cases ph <;> simp [reportCurrent]

theorem exec_setCollector {x : Call} {s : State} (may : mayCommand .setCollector x s) (nine : x.params.length = 9) :
    exec (.setCollector x) s = .next (answersWith .setCollector x s (performSetCollector x.params (renewed x s))) :=
  exec_requestInstr_commands may (by decide) (by rw [nine]; rfl)

/-- Settles O51. -/
theorem setCollectorRestartsTheUnit : Obligations.SetCollectorRestartsTheUnit := by
  intro x s may nine u
  rw [exec_setCollector may nine]
  refine ⟨fun unread => ?_, fun c read => ?_⟩
  · simp only [performSetCollector, unread, answersWith_refuse]
    rfl
  · intro current state
    have report : u.report = s.report := renewed_report x s
    have isCurrent : (u.report.phase = .queued ∨ u.report.phase = .awaitAck) ↔ current := by rw [report]
    have events : u.events = s.events := renewed_events x s
    have lost : u.lostCount = s.lostCount := renewed_lostCount x s
    have collector : u.collector = s.collector := renewed_collector x s
    refine ⟨{ closeReport (startPhase c) 0 (dropCurrent u) with collector := c }, ?_, rfl, ?_, fun h => ?_, fun h => ?_,
      fun p => ?_, ?_⟩
    · have isState : phaseByte s.report.phase = state := phaseByte_eq _
      have told : (if reportCurrent s.report.phase = true then countByte (pinnedCount s.events) else 0#8) =
          if current then BitVec.ofNat 8 (min 255 (pinnedCount s.events)) else 0#8 := by
        simp only [reportCurrent_iff]
        rfl
      simp only [performSetCollector, read, answersWith_mk, renewed_report, renewed_events, isState]
      rw [told]
    · have closed := dropCurrent_report u (startPhase c) 0
      rw [← startPhase_eq, ← report]
      exact closed
    · have dropped := dropCurrent_of_current (s := u) (isCurrent.2 h)
      rw [report, events, lost] at dropped
      exact dropped
    · have kept := dropCurrent_of_none (s := u) (mt isCurrent.1 h)
      exact ⟨(congrArg State.events kept).trans events, (congrArg State.lostCount kept).trans lost⟩
    · have port := dropCurrent_port u p
      rw [report, collector, renewed_port, renewed_responses] at port
      exact (State.port_congr rfl rfl p).trans port
    · have frame := dropCurrent_frame u
      have same : { u with
          collector := s.collector, report := s.report, events := s.events, lostCount := s.lostCount
          portA := s.portA, portB := s.portB } = u := by
        rw [← collector, ← report, ← events, ← lost, ← renewed_portA x s, ← renewed_portB x s]
      generalize dropCurrent u = t at frame
      rw [frame]
      exact same

/-! ### READ_REPORT_STATUS (R152) -/

theorem timerRemaining_eq (r : ReportUnit) :
    timerRemaining r = if r.phase = .awaitAck then r.retryTimer else if r.phase = .gap then r.gapTimer else 0 := by
  unfold timerRemaining
  split <;> rename_i phase <;> simp [phase]

theorem collectorBytes_eq (c : Collector) :
    collectorBytes c =
      (match c.target with
        | none => [255#8, 255#8]
        | some (n, .a) => [n, 0#8]
        | some (n, .b) => [n, 1#8]) ++
      [(match c.ackMode with
        | .ack => 0#8
        | .noAck => 1#8)] ++ bytes16 c.retryTimeout ++ [c.retryLimit.setWidth 8] ++ bytes16 c.pacingGap := by
  unfold collectorBytes
  cases c.target with
  | none => rfl
  | some t =>
    obtain ⟨n, p⟩ := t
    cases p <;> rfl

/-- Settles O53. -/
theorem reportStatusReturnsTheUnit : Obligations.ReportStatusReturnsTheUnit := by
  intro x s may none r c
  have run : exec (.readReportStatus x) s =
      .next (answersWith .readReportStatus x s (performReadReportStatus (renewed x s))) :=
    exec_requestInstr_performs may (by decide) nofun (by rw [none]; rfl)
  rw [run]
  simp only [performReadReportStatus, answersWith_mk, renewed_report, renewed_events, renewed_lostCount, renewed_collector,
    timerRemaining_eq, collectorBytes_eq, phaseByte_eq, List.append_assoc]
  rfl

/-! ### POLL_EVENTS, READ_ALARMS and CLEAR_ALARMS (R134, R136, R137) -/

theorem performPollEvents_collector {s : State} (set : s.collector.target ≠ none) :
    performPollEvents s = refuse .wrongState s := by
  obtain ⟨t, target⟩ := Option.ne_none_iff_exists'.1 set
  simp only [performPollEvents, target]

/-- R134: what is not selected stays. -/
theorem takeEvents_eq (chosen l : List Event) :
    takeEvents chosen l = l.filter (fun e => e.pinned || !chosen.any (fun y => y.serial == e.serial)) := by
  simp [takeEvents, isSelected]

theorem performPollEvents_none {s : State} (none : s.collector.target = none) :
    performPollEvents s =
      ⟨{ s with
          events := s.events.filter (fun e => e.pinned || !(selected s.events).any (fun y => y.serial == e.serial))
          lostCount := 0 }, .ok,
        [BitVec.ofNat 8 (selected s.events).length, s.lostCount] ++
          (selected s.events).flatMap (fun e => recordBytes e.serial e.body)⟩ := by
  have few : (selected s.events).length ≤ 255 := (selected_length_le s.events).trans (by decide)
  simp only [performPollEvents, none, takeEvents_eq, countByte, Nat.min_eq_right few]

/-- R137: the bits set along a list of slots. -/
theorem getLsbD_foldl_twoPow (q : SlotIndex → Bool) (l : List SlotIndex) (m : Byte) (k : SlotIndex) :
    (l.foldl (fun m j => if q j then m ||| BitVec.twoPow 8 j.val else m) m).getLsbD k.val =
      (m.getLsbD k.val || (decide (k ∈ l) && q k)) := by
  induction l generalizing m with
  | nil => simp
  | cons j l ih =>
    rw [List.foldl_cons, ih]
    by_cases same : k = j
    · subst same
      cases q k <;> simp
    · have other : k.val ≠ j.val := fun e => same (Fin.ext e)
      cases q j <;> simp [same, other]

theorem getLsbD_latchedMask (mask : Byte) (s : State) (k : SlotIndex) :
    (latchedMask mask s).getLsbD k.val = (mask.getLsbD k.val && (s.slot k).latched) := by
  have all : k ∈ slotIndices := List.mem_finRange k
  rw [latchedMask, getLsbD_foldl_twoPow (fun k => maskNames mask k && (s.slot k).latched)]
  simp [all, maskNames]

theorem clearLatches_eq (mask : Byte) (s : State) :
    clearLatches mask s =
      { s with
        slots := Vector.ofFn (fun k : Fin 8 =>
          { s.slots[k] with latched := s.slots[k].latched && !mask.getLsbD k.val }) } := by
  have slot (k : Fin 8) : (if maskNames mask k then { s.slots[k] with latched := false } else s.slots[k]) =
      { s.slots[k] with latched := s.slots[k].latched && !mask.getLsbD k.val } := by
    unfold maskNames
    cases mask.getLsbD k.val <;> simp
  simp only [clearLatches, slot]

/-- Settles O50. -/
theorem eventsAndAlarmsAreRead : Obligations.EventsAndAlarmsAreRead := by
  have next {t u : State} (h : t = u) : (.next t : Host.Outcome State Fault Refusal) = .next u := by rw [h]
  refine ⟨fun x s may none => ?_, fun x s => ?_⟩
  · have run : exec (.pollEvents x) s = .next (answersWith .pollEvents x s (performPollEvents (renewed x s))) :=
      exec_requestInstr_performs may (by decide) nofun (by rw [none]; rfl)
    intro u
    rw [run]
    refine ⟨fun set => next ?_, fun unset => next ?_⟩
    · rw [performPollEvents_collector (by rwa [renewed_collector]), answersWith_refuse]
    · rw [performPollEvents_none (by rwa [renewed_collector]), answersWith_mk, renewed_events, renewed_lostCount]
  · intro u
    refine ⟨fun may none => ?_, fun may mask one => ⟨latchedMask mask s, getLsbD_latchedMask mask s, ?_⟩⟩
    · have run : exec (.readAlarms x) s = .next (answersWith .readAlarms x s (performReadAlarms (renewed x s))) :=
        exec_requestInstr_performs may (by decide) nofun (by rw [none]; rfl)
      rw [run]
      simp only [performReadAlarms, answersWith_mk, renewed_slot]
      rfl
    · have run : exec (.clearAlarms x) s = .next (answersWith .clearAlarms x s (performClearAlarms [mask] (renewed x s))) :=
        one ▸ exec_requestInstr_commands may (by decide) (by rw [one]; rfl)
      have was : latchedMask mask (renewed x s) = latchedMask mask s := by
        simp only [latchedMask, renewed_slot]
      rw [run]
      simp only [performClearAlarms, answersWith_mk, clearLatches_eq, was, renewed_slots]
      rfl

end Sys2Proof.Machine
end

section
/-! SUPPORT. The requests of the classifier's table (R41, R42), of the program store and of the staging buffer (R63, R64,
R84, R175): the statements O41, O43 and O46. -/

namespace Sys2Proof.Machine

open Sys2Proof.Safety

/-! ### Requests that read an item (R34, R37) -/

section Requests

variable {c : RequestCode} {x : Call} {s : State}

/-- R153, R158: an admitted request, whatever damage its reads meet. -/
theorem exec_requestInstr_answers (d : Damage) (may : mayAsk c x s)
    (carried : c ≠ .identify ∧ c ≠ .reportAck ∧ c ≠ .restart) (lock : authority c = .lock → holds x s)
    (len : acceptsLength c x.params.length = true) :
    exec (requestInstr c x d) s = .next (answersWith c x s (perform c x.source x.params d (renewed x s))) := by
  obtain ⟨notIdentify, notAck, notRestart⟩ := carried
  rw [exec_requestInstr_arrives d may.1, ← requestCommand_arrives may.1,
    requestCommand_performs may notIdentify notAck notRestart lock len, answersWith]

theorem next_congr {t u : State} (h : t = u) : (.next t : Host.Outcome State Fault Refusal) = .next u := by rw [h]

end Requests

theorem parseFin_ofNat {n : Nat} (few : n ≤ 256) (i : Fin n) : parseFin n (BitVec.ofNat 8 i.val) = some i := by
  have below := i.isLt
  rw [parseFin_eq_some, BitVec.toNat_ofNat]
  omega

theorem readImage_eq (k : SlotIndex) (d : Damage) (s : State) :
    readImage k d s = afterRead (s.slot k).status.image.isSome (.program k) d s := by
  simp only [readImage, afterRead, Bool.and_eq_true, damaged_iff]

theorem readRecord_eq (i : ContextIndex) (d : Damage) (s : State) :
    readRecord i d s = afterRead (s.context i).isSome (.context i) d s := by
  simp only [readRecord, afterRead, Bool.and_eq_true, damaged_iff]

/-! ### WRITE_MATCH and READ_MATCH (R41, R42) -/

/-- Settles O41. -/
theorem matchEntriesAreWrittenAndRead : Obligations.MatchEntriesAreWrittenAndRead := by
  refine ⟨fun x s may eleven => ?_, fun x i d s may one => ?_⟩
  · have run : exec (.writeMatch x) s = .next (answersWith .writeMatch x s (performWriteMatch x.params (renewed x s))) :=
      exec_requestInstr_commands may (by decide) (by rw [eleven]; rfl)
    rw [run]
    refine ⟨fun i e read => next_congr ?_, fun unread => next_congr ?_⟩
    · simp only [performWriteMatch, read, answersWith_mk]
    · simp only [performWriteMatch, unread, answersWith_refuse]
  · have run : exec (.readMatch x d) s = .next (answersWith .readMatch x s (performReadMatch [i] d (renewed x s))) :=
      one ▸ exec_requestInstr_answers d may (by decide) nofun (by rw [one]; rfl)
    rw [run]
    refine ⟨fun high => next_congr ?_, fun low => next_congr ?_⟩
    · simp only [performReadMatch, parseFin_eq_none.2 high, answersWith_refuse]
    · have read : parseFin 48 i = some ⟨i.toNat, low⟩ := parseFin_eq_some.2 rfl
      simp only [performReadMatch, read, answersWith_mk, afterRead, damaged_iff, true_and]

/-! ### The staging writes (R175) -/

theorem writeImage_opened {u : State} {image : Image} (opened : u.staging = .opened image) (f : Image → Image) :
    writeImage f u = ⟨{ u with staging := .opened (f image) }, .ok, []⟩ := by simp only [writeImage, opened]

theorem writeImage_other {u : State} (other : ∀ image, u.staging ≠ .opened image) (f : Image → Image) :
    writeImage f u = refuse .wrongState u := by
  unfold writeImage
  cases buffer : u.staging with
  | opened image => exact absurd buffer (other image)
  | empty | pending => rfl

/-- Settles O43. -/
theorem stageWritesReplaceOnePart : Obligations.StageWritesReplaceOnePart := by
  intro x s u result
  have staging : u.staging = s.staging := renewed_staging x s
  have refused (c : RequestCode) : .next (answersWith c x s (refuse .outOfRange u)) = result c none := rfl
  have written (c : RequestCode) (f : Image → Image) : .next (answersWith c x s (writeImage f u)) = result c (some f) := by
    cases buffer : s.staging with
    | opened image =>
      simp only [result, buffer, writeImage_opened (staging.trans buffer), answersWith_mk]
    | empty | pending =>
      simp only [result, buffer, writeImage_other (u := u) (by simp [staging, buffer]), answersWith_refuse]
  refine ⟨fun may seven => ?_, fun may eight => ?_, fun may fourteen => ?_, fun may b one => ⟨fun high => ?_, fun p isP => ?_⟩⟩
  · have run : exec (.stageHeader x) s = .next (answersWith .stageHeader x s (performStageHeader x.params u)) :=
      exec_requestInstr_commands may (by decide) (by rw [seven]; rfl)
    rw [run, performStageHeader]
    cases parseHeader x.params with
    | none => exact refused _
    | some h => exact written _ _
  · have run : exec (.stageState x) s = .next (answersWith .stageState x s (performStageState x.params u)) :=
      exec_requestInstr_commands may (by decide) (by rw [eight]; rfl)
    rw [run, performStageState]
    cases parseState x.params with
    | none => exact refused _
    | some r => exact written _ _
  · have run : exec (.stageTransition x) s = .next (answersWith .stageTransition x s (performStageTransition x.params u)) :=
      exec_requestInstr_commands may (by decide) (by rw [fourteen]; rfl)
    have long : performStageTransition x.params u = match parseTransition x.params with
        | none => refuse .outOfRange u
        | some (p, t) => writeImage (setPosition p (some t)) u := by
      unfold performStageTransition
      split
      · rename_i only
        simp [only] at fourteen
      · rfl
    rw [run, long]
    cases parseTransition x.params with
    | none => exact refused _
    | some r => exact written _ _
  · have run : exec (.stageTransition x) s = .next (answersWith .stageTransition x s (performStageTransition [b] u)) :=
      one ▸ exec_requestInstr_commands may (by decide) (by rw [one]; rfl)
    rw [run]
    simp only [performStageTransition, parseFin_eq_none.2 high]
    exact refused _
  · have run : exec (.stageTransition x) s = .next (answersWith .stageTransition x s (performStageTransition [b] u)) :=
      one ▸ exec_requestInstr_commands may (by decide) (by rw [one]; rfl)
    rw [run, isP]
    simp only [performStageTransition, parseFin_ofNat (by decide) p]
    exact written _ _

/-! ### The reads (R63, R64, R84) -/

theorem slotStatusByte_eq (status : SlotStatus) :
    slotStatusByte status = match status with
      | .empty => 0#8
      | .active _ => 1#8
      | .draining _ => 2#8 := by cases status <;> rfl

theorem flagByte_eq (b : Bool) : flagByte b = if b then 1#8 else 0#8 := by cases b <;> rfl

theorem performReadSlot_outOfRange {slot index : Byte} (range : 8 ≤ slot.toNat ∨ 16 ≤ index.toNat) (d : Damage) (s : State) :
    performReadSlot [slot, index] d s = refuse .outOfRange s := by
  unfold performReadSlot
  rcases range with high | high
  · simp only [parseFin_eq_none.2 high]
  · simp only [parseFin_eq_none.2 high]
    cases parseFin 8 slot <;> rfl

theorem performReadTransition_outOfRange {slot position : Byte} (range : 8 ≤ slot.toNat ∨ 48 ≤ position.toNat)
    (d : Damage) (s : State) : performReadTransition [slot, position] d s = refuse .outOfRange s := by
  unfold performReadTransition
  rcases range with high | high
  · simp only [parseFin_eq_none.2 high]
  · simp only [parseFin_eq_none.2 high]
    cases parseFin 8 slot <;> rfl

theorem performReadTransition_holds {k : SlotIndex} {p : Position} {d : Damage} {s u : State} {image : Image}
    (read : readImage k d s = u) (holds : (u.slot k).status.image = some image) :
    performReadTransition [BitVec.ofNat 8 k.val, BitVec.ofNat 8 p.val] d s =
      ⟨u, .ok, [slotStatusByte (u.slot k).status, (u.slot k).generation, BitVec.ofNat 8 p.val] ++
        positionBytes image.positions[p]⟩ := by
  simp only [performReadTransition, parseFin_ofNat (by decide) k, parseFin_ofNat (by decide) p, read]
  split
  · rename_i none
    cases none.symm.trans holds
  · rename_i other
    cases other.symm.trans holds
    rfl

/-- Settles O46. -/
theorem readsReturnSlotsAndContexts : Obligations.ReadsReturnSlotsAndContexts := by
  refine ⟨fun x slot index d s may two => ?_, fun x slot position d s may two => ?_, fun x index d s may one => ?_⟩
  · have run : exec (.readSlot x d) s = .next (answersWith .readSlot x s (performReadSlot [slot, index] d (renewed x s))) :=
      two ▸ exec_requestInstr_answers d may (by decide) nofun (by rw [two]; rfl)
    rw [run]
    refine ⟨fun range => next_congr ?_, fun k t isK isT => ?_⟩
    · rw [performReadSlot_outOfRange range, answersWith_refuse]
    · intro u y
      have isU : readImage k d (renewed x s) = u := by rw [readImage_eq, renewed_slot]
      subst isK isT
      simp only [performReadSlot, parseFin_ofNat (by decide) k, parseFin_ofNat (by decide) t, isU, answersWith_mk, slotBytes,
        slotStatusByte_eq, flagByte_eq]
      rfl
  · have run : exec (.readTransition x d) s =
        .next (answersWith .readTransition x s (performReadTransition [slot, position] d (renewed x s))) :=
      two ▸ exec_requestInstr_answers d may (by decide) nofun (by rw [two]; rfl)
    rw [run]
    refine ⟨fun range => next_congr ?_, fun k p isK isP => ?_⟩
    · rw [performReadTransition_outOfRange range, answersWith_refuse]
    · intro u y
      have isU : readImage k d (renewed x s) = u := by rw [readImage_eq, renewed_slot]
      subst isK isP
      refine ⟨fun empty => next_congr ?_, fun image holds => next_congr ?_⟩
      · have none : (u.slot k).status.image = none := congrArg SlotStatus.image empty
        simp only [performReadTransition, parseFin_ofNat (by decide) k, parseFin_ofNat (by decide) p, isU, none,
          answersWith_refuse]
      · have shown : slotStatusByte (u.slot k).status = match (u.slot k).status with
            | .draining _ => 2#8
            | _ => 1#8 := by
          revert holds
          cases (u.slot k).status <;> simp [SlotStatus.image, slotStatusByte]
        rw [performReadTransition_holds isU holds, answersWith_mk, shown]
        cases image.positions[p] <;> rfl
  · have run : exec (.readContext x d) s = .next (answersWith .readContext x s (performReadContext [index] d (renewed x s))) :=
      one ▸ exec_requestInstr_answers d may (by decide) nofun (by rw [one]; rfl)
    rw [run]
    refine ⟨fun high => next_congr ?_, fun i isI => ?_⟩
    · simp only [performReadContext, parseFin_eq_none.2 high, answersWith_refuse]
    · intro u
      have isU : readRecord i d (renewed x s) = u := by rw [readRecord_eq, renewed_context]
      subst isI
      simp only [performReadContext, parseFin_ofNat (by decide) i, isU, answersWith_mk, contextBytes]
      cases u.context i <;> rfl

end Sys2Proof.Machine
end

section
/-! SUPPORT. A commit (R176 to R178) and an erasure (R180): the statements O44 and O45. -/

namespace Sys2Proof.Machine

open Sys2Proof.Safety

/-! ### STAGE_COMMIT (R176 to R178) -/

section Commit

variable {k : SlotIndex} {image : Image} {s : State}

theorem commitImage_drain {old : Image} (active : (s.slot k).status = .active old) (live : (s.slot k).contextCount ≠ 0) :
    commitImage true k image s = commitDrain k image s := by
  unfold commitImage
  split
  · exact if_neg live
  · rename_i drains
    cases drains old rfl active

/-- R177: in REPLACE mode, at an EMPTY slot and at one with no context the install is at once. -/
theorem commitImage_now {drain : Bool}
    (now : drain = false ∨ (s.slot k).status = .empty ∨ (s.slot k).contextCount = 0) :
    commitImage drain k image s = commitNow k image s := by
  unfold commitImage
  split
  · rename_i active
    rcases now with replace | empty | none
    · cases replace
    · cases active.symm.trans empty
    · exact if_pos none
  · rfl

/-- R44, R178: the drain of an ACTIVE slot. -/
theorem commitDrain_eq {old : Image} (active : (s.slot k).status = .active old) :
    commitDrain k image s =
      ⟨({ s with staging := .pending image k }).modifySlot k (fun y => { y with status := .draining old }), .ok,
        [2#8, (s.slot k).generation, countByte (s.slot k).contextCount]⟩ := by
  have drains : drainSlot (s.slot k) = { s.slot k with status := .draining old } := by simp only [drainSlot, active]
  have state : ({ s with staging := .pending image k }).modifySlot k drainSlot =
      ({ s with staging := .pending image k }).modifySlot k (fun y => { y with status := .draining old }) :=
    State.modifySlot_congr drains
  simp only [commitDrain, state, commitData, State.modifySlot_slot_same, slotStatusByte]
  rfl

/-- R177: the install at once. -/
theorem commitNow_eq :
    commitNow k image s =
      let e := endContexts (ofSlot k) .superseded s
      let told := offerAll e.events e.state
      let told := if countContexts (ofSlot k) s = 0 then told
        else offer (supersededEvent k (countContexts (ofSlot k) s)) told
      let v : State := { install k image told with staging := .empty }
      ⟨v, .ok, [1#8, (v.slot k).generation, countByte (countContexts (ofSlot k) s)]⟩ := by
  have status (t : State) : (({ install k image t with staging := .empty } : State).slot k).status = .active (installedImage image) :=
    congrArg Slot.status (install_slot_same k image t)
  have count := endContexts_count (ofSlot k) .superseded s
  simp only [commitNow, commitData, status, slotStatusByte]
  generalize endContexts (ofSlot k) .superseded s = e at count
  simp only [count, Nat.pos_iff_ne_zero, ite_not]

end Commit

/-- Settles O44. -/
theorem commitInstallsOrDrains : Obligations.CommitInstallsOrDrains := by
  intro x slot mode s may two u
  have run : exec (.stageCommit x) s = .next (answersWith .stageCommit x s (performStageCommit [slot, mode] u)) :=
    two ▸ exec_requestInstr_commands may (by decide) (by rw [two]; rfl)
  have staging : u.staging = s.staging := renewed_staging x s
  rw [run]
  refine ⟨fun range => next_congr ?_, fun low isMode other => next_congr ?_, fun k image isK isMode opened => ?_⟩
  · have refused : performStageCommit [slot, mode] u = refuse .outOfRange u := by
      simp only [performStageCommit]
      rcases range with high | high
      · rw [parseFin_eq_none.2 high]
      · rw [parseFlag_eq_none.2 high]
        cases parseFin 8 slot <;> rfl
    rw [refused, answersWith_refuse]
  · have isK : parseFin 8 slot = some ⟨slot.toNat, low⟩ := parseFin_eq_some.2 rfl
    obtain ⟨drain, isDrain⟩ := Option.ne_none_iff_exists'.1 (fun none => by
      have := parseFlag_eq_none.1 none
      omega : parseFlag mode ≠ none)
    simp only [performStageCommit, isK, isDrain, staging]
    cases buffer : s.staging with
    | opened image => exact absurd buffer (other image)
    | empty | pending => exact answersWith_refuse ..
  · have same : u.slot k = s.slot k := renewed_slot x s k
    have counted : countContexts (ofSlot k) u = countContexts (ofSlot k) s := countContexts_congr (renewed_contexts x s)
    obtain ⟨drain, isDrain⟩ := Option.ne_none_iff_exists'.1 (fun none => by
      have := parseFlag_eq_none.1 none
      omega : parseFlag mode ≠ none)
    have refused (failure : Failure) (fails : validate image = some failure) :
        performStageCommit [slot, mode] u = ⟨u, .invalidProgram, failureBytes failure⟩ := by
      simp only [performStageCommit, isK, parseFin_ofNat (by decide) k, isDrain, staging, opened, fails]
    have performed (valid : validate image = none) : performStageCommit [slot, mode] u = commitImage drain k image u := by
      simp only [performStageCommit, isK, parseFin_ofNat (by decide) k, isDrain, staging, opened, valid]
    have isFlag := parseFlag_eq_some.1 isDrain
    refine ⟨fun failure fails => next_congr ?_, fun valid => ⟨fun old drainMode active live => next_congr ?_, fun now => ?_⟩⟩
    · rw [refused failure fails, answersWith_mk]
    · have isTrue : drain = true := by
        cases drain
        · cases isFlag.symm.trans drainMode
        · rfl
      rw [performed valid, isTrue]
      simp only [commitImage_drain (same ▸ active) (same ▸ live), commitDrain_eq (same ▸ active), answersWith_mk, same]
      rfl
    · have now' : drain = false ∨ (u.slot k).status = .empty ∨ (u.slot k).contextCount = 0 := by
        rw [same]
        refine now.imp_left fun replace => ?_
        cases drain
        · rfl
        · cases isFlag.symm.trans replace
      intro e n told told' v
      refine next_congr ?_
      rw [performed valid]
      simp only [commitImage_now now', commitNow_eq, answersWith_mk, counted]
      rfl

/-! ### ERASE_SLOT (R180) -/

/-- R178: the ends in an ACTIVE slot complete no drain. -/
theorem endContexts_ofSlot_quiet {k : SlotIndex} {image : Image} {s : State} (active : (s.slot k).status = .active image)
    (r : EndReason) : (endContexts (ofSlot k) r s).events = [] := by
  refine (endContexts_quiet fun j img old pending draining => Or.inl ?_).1
  refine countContexts_eq_zero.2 fun i c used => ?_
  by_cases own : j = k
  · cases own
    cases active.symm.trans draining
  · cases at_k : ofSlot k c with
    | false => simp only [endsIn, at_k, Bool.false_and]
    | true =>
      have at_k' : c.slot = k := by simpa [ofSlot] using at_k
      simp [endsIn, at_k', Ne.symm own]

/-- R47, R180: an ACTIVE slot is emptied and its counters are cleared. -/
theorem eraseActive_eq {k : SlotIndex} {image : Image} {s : State} (active : (s.slot k).status = .active image) :
    eraseActive k s =
      ⟨(endContexts (ofSlot k) .erased s).state.modifySlot k (fun y =>
          { y with status := .empty, counters := .zero, latched := false, fullReported := false }), .ok,
        [1#8, countByte (countContexts (ofSlot k) s)]⟩ := by
  have count := endContexts_count (ofSlot k) .erased s
  have quiet := endContexts_ofSlot_quiet active .erased
  simp only [eraseActive, removeProgram, active]
  generalize endContexts (ofSlot k) .erased s = e at count quiet
  simp only [count, quiet, offerAll_nil, State.modifySlot_modifySlot]
  rfl

/-- Settles O45. -/
theorem eraseEmptiesAnActiveSlot : Obligations.EraseEmptiesAnActiveSlot := by
  intro x slot s may one u
  have run : exec (.eraseSlot x) s = .next (answersWith .eraseSlot x s (performEraseSlot [slot] u)) :=
    one ▸ exec_requestInstr_commands may (by decide) (by rw [one]; rfl)
  rw [run]
  refine ⟨fun high => next_congr ?_, fun k isK => ?_⟩
  · simp only [performEraseSlot, parseFin_eq_none.2 high, answersWith_refuse]
  · have same : (u.slot k).status = (s.slot k).status := congrArg Slot.status (renewed_slot x s k)
    have counted : countContexts (ofSlot k) u = countContexts (ofSlot k) s := countContexts_congr (renewed_contexts x s)
    simp only [performEraseSlot, isK, parseFin_ofNat (by decide) k, same]
    refine ⟨fun empty => next_congr ?_, fun image draining => next_congr ?_, fun image active => next_congr ?_⟩
    · rw [empty]
      exact answersWith_mk ..
    · rw [draining]
      exact answersWith_refuse ..
    · rw [active, eraseActive_eq (same.trans active), counted, answersWith_mk]
      rfl

end Sys2Proof.Machine
end

section
/-! SUPPORT. The context requests that list and end (R85, R86): the statements O47 and O48. -/

namespace Sys2Proof.Machine

open Sys2Proof.Safety

/-! ### FIND_CONTEXTS (R85) -/

section Find

variable {selector : Byte} {sel : Option SlotIndex}

theorem parseSlotSelector_eq_none (range : 8 ≤ selector.toNat ∧ selector ≠ 255#8) : parseSlotSelector selector = none := by
  simp only [parseSlotSelector, if_neg range.2, parseFin_eq_none.2 range.1, Option.map_none]

theorem parseSlotSelector_isSome (range : selector.toNat < 8 ∨ selector = 255#8) : ∃ sel, parseSlotSelector selector = some sel := by
  by_cases any : selector = 255#8
  · exact ⟨none, if_pos any⟩
  · have isK : parseFin 8 selector = some ⟨selector.toNat, range.resolve_right any⟩ := parseFin_eq_some.2 rfl
    exact ⟨_, by rw [parseSlotSelector, if_neg any, isK, Option.map_some]⟩

/-- R85: the contexts that the selector admits. -/
theorem all_of_parseSlotSelector (read : parseSlotSelector selector = some sel) (c : Context) :
    sel.all (fun k => c.slot == k) = decide (selector = 255#8 ∨ c.slot.val = selector.toNat) := by
  unfold parseSlotSelector at read
  split at read
  · rename_i any
    cases read
    simp [any]
  · rename_i one
    obtain ⟨k, isK, rfl⟩ := Option.map_eq_some_iff.1 read
    rw [parseFin_eq_some.1 isK, Option.all_some, Bool.eq_iff_iff, beq_iff_eq, Fin.ext_iff, decide_eq_true_eq]
    exact (or_iff_right one).symm

theorem admitted_eq (read : parseSlotSelector selector = some sel) (start : ContextIndex) (t : State) :
    admitted sel start t = contextIndices.filter (fun i =>
      decide (start.val ≤ i.val) &&
        (t.context i).any (fun c => decide (selector = 255#8 ∨ c.slot.val = selector.toNat))) := by
  simp only [admitted, all_of_parseSlotSelector read]
  rfl

theorem findBytes_eq (start : ContextIndex) (t : State) :
    findBytes sel start t =
      [BitVec.ofNat 8 (min 20 (admitted sel start t).length), if 20 < (admitted sel start t).length then 1#8 else 0#8] ++
        ((admitted sel start t).take 20).map (fun i => BitVec.ofNat 8 i.val) := by
  have few : min 255 (min 20 (admitted sel start t).length) = min 20 (admitted sel start t).length := by omega
  simp only [findBytes, listed, Config.listedContexts, countByte, List.length_take, few, flagByte]
  by_cases more : 20 < (admitted sel start t).length
  · simp only [more, decide_true, if_true]
    rfl
  · simp only [more, decide_false, if_false]
    rfl

theorem scanPasses_iff {start i : ContextIndex} {t : State} :
    scanPasses sel start i t = true ↔
      start.val ≤ i.val ∧ ((admitted sel start t).length < 20 ∨ ∃ j ∈ (admitted sel start t).take 20, i ≤ j) := by
  have short : ((admitted sel start t).take 20).length < 20 ↔ (admitted sel start t).length < 20 := by
    rw [List.length_take]; omega
  simp only [scanPasses, listed, Config.listedContexts, Bool.and_eq_true, Bool.or_eq_true, decide_eq_true_eq,
    List.any_eq_true, short]
  rfl

/-- R34, R85: the scan meets a damaged context in use that it passes. -/
theorem scanTable_passed {start i : ContextIndex} {t : State} (passes : scanPasses sel start i t = true)
    (used : (t.context i).isSome = true) :
    scanTable sel start (some (.context i)) t = integrityFault (.context i) t := by
  rw [scanTable, if_pos passes, readRecord_eq]
  exact if_pos ⟨used, rfl⟩

theorem scanTable_missed {start : ContextIndex} {d : Damage} {t : State}
    (missed : ∀ i, d = some (.context i) → ¬(scanPasses sel start i t = true ∧ (t.context i).isSome = true)) :
    scanTable sel start d t = t := by
  unfold scanTable
  split
  · rename_i i
    split
    · rename_i passes
      rw [readRecord_eq]
      exact if_neg fun met => missed i rfl ⟨passes, met.1⟩
    · rfl
  · rfl

end Find

/-- Settles O47. -/
theorem findContextsListsTwenty : Obligations.FindContextsListsTwenty := by
  intro x selector start d s may two
  have run : exec (.findContexts x d) s =
      .next (answersWith .findContexts x s (performFindContexts [selector, start] d (renewed x s))) :=
    two ▸ exec_requestInstr_answers d may (by decide) nofun (by rw [two]; rfl)
  rw [run]
  refine ⟨fun range => next_congr ?_, fun range low => ?_⟩
  · have refused : performFindContexts [selector, start] d (renewed x s) = refuse .outOfRange (renewed x s) := by
      simp only [performFindContexts]
      rcases range with high | high
      · rw [parseSlotSelector_eq_none high]
      · rw [parseFin_eq_none.2 high]
        cases parseSlotSelector selector <;> rfl
    rw [refused, answersWith_refuse]
  · intro found data u passed
    obtain ⟨sel, read⟩ := parseSlotSelector_isSome range
    let first : ContextIndex := ⟨start.toNat, low⟩
    have isFound (t : State) : admitted sel first t = found t := admitted_eq read first t
    have isData (t : State) : findBytes sel first t = data t := by
      simp only [findBytes_eq, isFound, data]
    have performed : performFindContexts [selector, start] d u = ⟨scanTable sel first d u, .ok, data (scanTable sel first d u)⟩ := by
      have isFirst : parseFin 96 start = some first := parseFin_eq_some.2 rfl
      simp only [performFindContexts, read, isFirst, isData]
    have sameFound : found u = found s := by simp only [found, u, renewed_context]
    have passed_iff (i : ContextIndex) :
        scanPasses sel first i u = true ∧ (u.context i).isSome = true ↔ passed i := by
      simp only [scanPasses_iff, isFound, sameFound, passed, u, renewed_context]
      tauto
    rw [performed]
    refine ⟨fun missed => next_congr ?_, fun i at_i isPassed => ?_⟩
    · rw [scanTable_missed fun i at_i met => missed i at_i ((passed_iff i).1 met), answersWith_mk]
    · intro v
      obtain ⟨passes, used⟩ := (passed_iff i).2 isPassed
      rw [at_i, scanTable_passed passes used, answersWith_mk]

/-! ### END_CONTEXT (R86) -/

theorem Guard.holds_iff {g : Guard} {c : Context} :
    g.holds c = true ↔ (g.slot, g.generation, g.initiator, g.responder) = (c.slot, c.generation, c.initiator, c.responder) := by
  simp only [Guard.holds, Bool.and_eq_true, beq_iff_eq, Prod.mk.injEq]
  constructor <;> (rintro h; simp_all)

section Checked

variable {i : ContextIndex} {g : Option Guard} {d : Damage} {s : State}

theorem endChecked_free (free : s.context i = none) : endChecked i g d s = ⟨s, .wrongState, [0#8]⟩ := by
  simp only [endChecked, free]

theorem endChecked_damaged {c : Context} (used : s.context i = some c) :
    endChecked i g (some (.context i)) s = ⟨integrityFault (.context i) s, .wrongState, [0#8]⟩ := by
  simp only [endChecked, used]
  exact if_pos ((damaged_iff ..).2 rfl)

theorem endChecked_sound {c : Context} (used : s.context i = some c) (sound : d ≠ some (.context i)) :
    endChecked i g d s = if g.all (fun g => g.holds c) then forceEnd i c s else ⟨s, .wrongState, [1#8]⟩ := by
  simp only [endChecked, used]
  exact if_neg fun damaged => sound ((damaged_iff ..).1 damaged)

end Checked

/-- R86: the guard that the guarded form spells. -/
def guardOf (e : SlotIndex × Byte × Byte × Byte) : Guard := ⟨e.1, e.2.1, e.2.2.1, e.2.2.2⟩

theorem guardOf_holds {e : SlotIndex × Byte × Byte × Byte} {c : Context} :
    (guardOf e).holds c = true ↔ e = (c.slot, c.generation, c.initiator, c.responder) := Guard.holds_iff

/-- R86: the parameters of the plain form and of the guarded form. -/
theorem performEndContext_guarded {params : List Byte} {i : ContextIndex} {guard : Option (SlotIndex × Byte × Byte × Byte)}
    (spells : match guard with
      | none => params = [BitVec.ofNat 8 i.val]
      | some (k, g, m, n) => params = [BitVec.ofNat 8 i.val, BitVec.ofNat 8 k.val, g, m, n] ∧ m ≠ 255#8 ∧ n ≠ 255#8)
    (d : Damage) (s : State) :
    performEndContext params d s = endChecked i (guard.map guardOf) d s ∧ acceptsLength .endContext params.length = true := by
  cases guard with
  | none =>
    dsimp only at spells
    subst spells
    exact ⟨by simp only [performEndContext, parseFin_ofNat (by decide) i, Option.map_none], rfl⟩
  | some e =>
    obtain ⟨k, g, m, n⟩ := e
    obtain ⟨rfl, notM, notN⟩ := spells
    refine ⟨?_, rfl⟩
    simp only [performEndContext, parseFin_ofNat (by decide) i, parseFin_ofNat (by decide) k]
    exact if_neg (not_or.2 ⟨notM, notN⟩)

/-- Settles O48. -/
theorem endContextForcesAnEnd : Obligations.EndContextForcesAnEnd := by
  intro x d s may u
  have run (len : acceptsLength .endContext x.params.length = true) :
      exec (.endContext x d) s = .next (answersWith .endContext x s (performEndContext x.params d u)) :=
    exec_requestInstr_answers d may.1 (by decide) (fun _ => may.2) len
  refine ⟨fun b one high => ?_, fun b k g m n five range => ?_, fun i guard spells => ?_⟩
  · rw [run (by rw [one]; rfl), one]
    simp only [performEndContext, parseFin_eq_none.2 high, answersWith_refuse]
  · have refused : performEndContext [b, k, g, m, n] d u = refuse .outOfRange u := by
      simp only [performEndContext]
      split
      · rename_i j l isJ isL
        refine if_pos (((range.resolve_left ?_).resolve_left ?_))
        · rw [← parseFin_eq_none (n := 96), isJ]; nofun
        · rw [← parseFin_eq_none (n := 8), isL]; nofun
      · rfl
    rw [run (by rw [five]; rfl), five, refused, answersWith_refuse]
  · obtain ⟨performed, len⟩ := performEndContext_guarded spells d u
    have same : u.context i = s.context i := renewed_context x s i
    rw [run len, performed]
    refine ⟨fun free => next_congr ?_, fun c used => ⟨fun damaged => next_congr ?_, fun sound other => next_congr ?_,
      fun sound all => next_congr ?_⟩⟩
    · rw [endChecked_free (same.trans free), answersWith_mk]
    · rw [damaged, endChecked_damaged (same.trans used), answersWith_mk]
    · obtain ⟨e, at_e, differs⟩ := other
      rw [endChecked_sound (same.trans used) sound, if_neg, answersWith_mk]
      rw [Option.mem_def.1 at_e, Option.map_some, Option.all_some]
      exact fun holds => differs (guardOf_holds.1 holds)
    · have holds : (guard.map guardOf).all (fun g => g.holds c) = true := by
        cases guard with
        | none => rfl
        | some e => exact guardOf_holds.2 (all e rfl)
      rw [endChecked_sound (same.trans used) sound, if_pos holds, forceEnd, slotStatusByte_eq, answersWith_mk]
      rfl

end Sys2Proof.Machine
end

section
/-! SUPPORT. The parts of an image in parameters and data (R49, R63, R64, R175): the statement O60. A reader accepts a
list exactly when each field's reader accepts its bytes, and refuses it exactly when one of them does. -/

namespace Sys2Proof.Machine

/-! ### Readers one after another -/

section Readers

variable {α β : Type}

theorem bind_eq_none_or {o : Option α} {f : α → Option β} {rest : Prop} (h : ∀ a, f a = none ↔ rest) :
    (o >>= f) = none ↔ o = none ∨ rest := by
  cases o with
  | none => simp
  | some a => simpa using h a

theorem bind_some_eq_none {o : Option α} {f : α → β} : (o >>= fun a => some (f a)) = none ↔ o = none := by
  cases o <;> simp

end Readers

/-! ### Single fields -/

theorem word16_toNat (hi lo : Byte) : (word16 hi lo).toNat = 256 * hi.toNat + lo.toNat := by
  have low := lo.isLt
  rw [word16, BitVec.toNat_append, Nat.shiftLeft_eq, Nat.mul_comm, ← Nat.two_pow_add_eq_or_of_lt low]

theorem word16_ofNat (x : Word16) : word16 (BitVec.ofNat 8 (x.toNat / 256)) (BitVec.ofNat 8 x.toNat) = x := by
  have range := x.isLt
  apply BitVec.eq_of_toNat_eq
  rw [word16_toNat, BitVec.toNat_ofNat, BitVec.toNat_ofNat]
  omega

/-- The level byte and the code byte of an event setting (R49). -/
def eventLevelByte (e : Option EventSetting) : Byte :=
  match e with
  | none => 0xFF#8
  | some x => BitVec.ofNat 8 x.level.toNat

def eventCodeByte (e : Option EventSetting) : Byte :=
  match e with
  | none => 0#8
  | some x => x.code

theorem eventBytes_eq (e : Option EventSetting) : eventBytes e = [eventLevelByte e, eventCodeByte e] := by
  cases e with
  | none => rfl
  | some x => simp only [eventBytes, eventLevelByte, eventCodeByte, BitVec.ofNat_toNat]

theorem parseEvent_eq_some_iff {level code : Byte} {e : Option EventSetting} :
    parseEvent level code = some e ↔ level = eventLevelByte e ∧ ∀ x ∈ e, code = x.code := by
  rw [parseEvent_eq_some]
  cases e with
  | none => simp [eventLevelByte]
  | some x =>
    have range := x.level.isLt
    have isLevel : level = eventLevelByte (some x) ↔ level.toNat = x.level.toNat := by
      rw [eventLevelByte, ← BitVec.toNat_inj, BitVec.toNat_ofNat, Nat.mod_eq_of_lt (by omega)]
    simp [isLevel]

theorem parseEvent_eventByte (e : Option EventSetting) : parseEvent (eventLevelByte e) (eventCodeByte e) = some e :=
  parseEvent_eq_some_iff.2 ⟨rfl, fun x isX => by rw [Option.mem_def.1 isX]; rfl⟩

/-- A limit of a few bits is read as a number below their power of 2. -/
theorem parseFin_limit {n w : Nat} (power : n = 2 ^ w) {b : Byte} {x : BitVec w} :
    (∃ l, parseFin n b = some l ∧ BitVec.ofNat w l.val = x) ↔ b.toNat = x.toNat := by
  have range := x.isLt
  constructor
  · rintro ⟨l, isL, rfl⟩
    rw [parseFin_eq_some.1 isL, BitVec.toNat_ofNat, Nat.mod_eq_of_lt (by omega)]
  · intro same
    exact ⟨⟨x.toNat, by omega⟩, parseFin_eq_some.2 same, BitVec.ofNat_toNat .. ▸ BitVec.setWidth_eq x⟩

theorem ofNat_toNat_of_few {w : Nat} (few : w ≤ 8) (x : BitVec w) : (BitVec.ofNat 8 x.toNat).toNat = x.toNat := by
  have range := x.isLt
  have small : 2 ^ w ≤ 2 ^ 8 := Nat.pow_le_pow_right (by decide) few
  rw [BitVec.toNat_ofNat, Nat.mod_eq_of_lt (by omega)]

/-! ### Header (R49, R63, R175) -/

theorem headerBytes_eq (h : Header) :
    headerBytes h = [finByte h.stateCount, flagByte h.holdOnAlarm, verdictByte h.overflow,
      unexpectedTargetByte h.unexpected.target, verdictByte h.unexpected.verdict, eventLevelByte h.unexpected.event,
      eventCodeByte h.unexpected.event] := by
  rw [headerBytes, eventBytes_eq]
  rfl

theorem parseHeader_eq_some {count hold overflow target verdict level code : Byte} {h : Header} :
    parseHeader [count, hold, overflow, target, verdict, level, code] = some h ↔
      parseFin 17 count = some h.stateCount ∧ parseFlag hold = some h.holdOnAlarm ∧
        parseVerdict overflow = some h.overflow ∧ parseUnexpectedTarget target = some h.unexpected.target ∧
        parseVerdict verdict = some h.unexpected.verdict ∧ parseEvent level code = some h.unexpected.event := by
  constructor
  · intro read
    simp only [parseHeader, Option.bind_eq_bind, Option.bind_eq_some_iff, Option.some.injEq] at read
    obtain ⟨_, isCount, _, isHold, _, isOverflow, _, isTarget, _, isVerdict, _, isEvent, rfl⟩ := read
    exact ⟨isCount, isHold, isOverflow, isTarget, isVerdict, isEvent⟩
  · rintro ⟨isCount, isHold, isOverflow, isTarget, isVerdict, isEvent⟩
    simp only [parseHeader, isCount, isHold, isOverflow, isTarget, isVerdict, isEvent, Option.bind_eq_bind, Option.bind_some]

theorem parseHeader_eq_none {count hold overflow target verdict level code : Byte} :
    parseHeader [count, hold, overflow, target, verdict, level, code] = none ↔
      parseFin 17 count = none ∨ parseFlag hold = none ∨ parseVerdict overflow = none ∨
        parseUnexpectedTarget target = none ∨ parseVerdict verdict = none ∨ parseEvent level code = none :=
  bind_eq_none_or fun _ => bind_eq_none_or fun _ => bind_eq_none_or fun _ => bind_eq_none_or fun _ =>
    bind_eq_none_or fun _ => bind_some_eq_none

theorem parseHeader_headerBytes (h : Header) : parseHeader (headerBytes h) = some h := by
  rw [headerBytes_eq, parseHeader_eq_some]
  exact ⟨parseFin_ofNat (by decide) _, parseFlag_eq_some.2 rfl, parseVerdict_eq_some.2 rfl,
    parseUnexpectedTarget_eq_some.2 rfl, parseVerdict_eq_some.2 rfl, parseEvent_eventByte _⟩

/-! ### State record (R49, R63, R175) -/

theorem stateBytes_eq (t : StateIndex) (r : StateRecord) :
    stateBytes t r = [finByte t, BitVec.ofNat 8 (r.timeout.toNat / 256), BitVec.ofNat 8 r.timeout.toNat,
      targetByte r.target, eventLevelByte r.event, eventCodeByte r.event, flagByte r.alarm,
      BitVec.ofNat 8 r.retryLimit.toNat] := by
  rw [stateBytes, eventBytes_eq, bytes16_eq_ofNat, ← BitVec.ofNat_toNat (x := r.retryLimit)]
  rfl

theorem parseState_eq_some {index hi lo target level code kind limit : Byte} {t : StateIndex} {r : StateRecord} :
    parseState [index, hi, lo, target, level, code, kind, limit] = some (t, r) ↔
      parseFin 16 index = some t ∧ word16 hi lo = r.timeout ∧ parseTarget target = some r.target ∧
        parseEvent level code = some r.event ∧ parseFlag kind = some r.alarm ∧ limit.toNat = r.retryLimit.toNat := by
  rw [← parseFin_limit (n := 16) rfl]
  constructor
  · intro read
    simp only [parseState, Option.bind_eq_bind, Option.bind_eq_some_iff, Option.some.injEq, Prod.mk.injEq] at read
    obtain ⟨_, isIndex, _, isTarget, _, isEvent, _, isKind, _, isLimit, rfl, rfl⟩ := read
    exact ⟨isIndex, rfl, isTarget, isEvent, isKind, _, isLimit, rfl⟩
  · rintro ⟨isIndex, isTimeout, isTarget, isEvent, isKind, _, isLimit, same⟩
    simp only [parseState, isIndex, isTimeout, isTarget, isEvent, isKind, isLimit, same, Option.bind_eq_bind,
      Option.bind_some]

theorem parseState_eq_none {index hi lo target level code kind limit : Byte} :
    parseState [index, hi, lo, target, level, code, kind, limit] = none ↔
      parseFin 16 index = none ∨ parseTarget target = none ∨ parseEvent level code = none ∨ parseFlag kind = none ∨
        parseFin 16 limit = none :=
  bind_eq_none_or fun _ => bind_eq_none_or fun _ => bind_eq_none_or fun _ => bind_eq_none_or fun _ => bind_some_eq_none

theorem parseState_stateBytes (t : StateIndex) (r : StateRecord) : parseState (stateBytes t r) = some (t, r) := by
  rw [stateBytes_eq, parseState_eq_some]
  exact ⟨parseFin_ofNat (by decide) _, word16_ofNat _, parseTarget_eq_some.2 rfl, parseEvent_eventByte _,
    parseFlag_eq_some.2 rfl, ofNat_toNat_of_few (by decide) _⟩

/-! ### Transition (R49, R64, R175) -/

theorem transitionBytes_eq (t : Transition) :
    transitionBytes t = [finByte t.fromState, directionByte t.direction, BitVec.ofNat 8 t.kindLow.toNat,
      BitVec.ofNat 8 t.kindHigh.toNat, relationByte t.relation] ++ testBytes t.test ++
      [targetByte t.target, verdictByte t.verdict, eventLevelByte t.event, eventCodeByte t.event] := by
  rw [transitionBytes, eventBytes_eq, BitVec.ofNat_toNat, BitVec.ofNat_toNat]
  simp

theorem parseTransition_eq_some
    {position fromState direction low high relation present offset mask value target verdict level code : Byte}
    {p : Position} {t : Transition} :
    parseTransition [position, fromState, direction, low, high, relation, present, offset, mask, value, target, verdict,
        level, code] = some (p, t) ↔
      parseFin 48 position = some p ∧ parseFin 16 fromState = some t.fromState ∧
        parseDirection direction = some t.direction ∧ parseKind low = some t.kindLow ∧ parseKind high = some t.kindHigh ∧
        parseRelation relation = some t.relation ∧ parseTest present offset mask value = some t.test ∧
        parseTarget target = some t.target ∧ parseVerdict verdict = some t.verdict ∧
        parseEvent level code = some t.event := by
  constructor
  · intro read
    simp only [parseTransition, Option.bind_eq_bind, Option.bind_eq_some_iff, Option.some.injEq, Prod.mk.injEq] at read
    obtain ⟨_, isPosition, _, isFrom, _, isDirection, _, isLow, _, isHigh, _, isRelation, _, isTest, _, isTarget, _,
      isVerdict, _, isEvent, rfl, rfl⟩ := read
    exact ⟨isPosition, isFrom, isDirection, isLow, isHigh, isRelation, isTest, isTarget, isVerdict, isEvent⟩
  · rintro ⟨isPosition, isFrom, isDirection, isLow, isHigh, isRelation, isTest, isTarget, isVerdict, isEvent⟩
    simp only [parseTransition, isPosition, isFrom, isDirection, isLow, isHigh, isRelation, isTest, isTarget, isVerdict,
      isEvent, Option.bind_eq_bind, Option.bind_some]

theorem parseTransition_eq_none
    {position fromState direction low high relation present offset mask value target verdict level code : Byte} :
    parseTransition [position, fromState, direction, low, high, relation, present, offset, mask, value, target, verdict,
        level, code] = none ↔
      parseFin 48 position = none ∨ parseFin 16 fromState = none ∨ parseDirection direction = none ∨
        parseKind low = none ∨ parseKind high = none ∨ parseRelation relation = none ∨
        parseTest present offset mask value = none ∨ parseTarget target = none ∨ parseVerdict verdict = none ∨
        parseEvent level code = none :=
  bind_eq_none_or fun _ => bind_eq_none_or fun _ => bind_eq_none_or fun _ => bind_eq_none_or fun _ =>
    bind_eq_none_or fun _ => bind_eq_none_or fun _ => bind_eq_none_or fun _ => bind_eq_none_or fun _ =>
    bind_eq_none_or fun _ => bind_some_eq_none

theorem parseKind_ofNat (x : BitVec 6) : parseKind (BitVec.ofNat 8 x.toNat) = some x :=
  parseKind_eq_some.2 (ofNat_toNat_of_few (by decide) x)

theorem parseTransition_transitionBytes (p : Position) (t : Transition) :
    parseTransition (BitVec.ofNat 8 p.val :: transitionBytes t) = some (p, t) := by
  have reads {present offset mask value : Byte} (isTest : parseTest present offset mask value = some t.test) :
      parseTransition (BitVec.ofNat 8 p.val :: ([finByte t.fromState, directionByte t.direction,
        BitVec.ofNat 8 t.kindLow.toNat, BitVec.ofNat 8 t.kindHigh.toNat, relationByte t.relation] ++
        [present, offset, mask, value] ++
        [targetByte t.target, verdictByte t.verdict, eventLevelByte t.event, eventCodeByte t.event])) = some (p, t) :=
    parseTransition_eq_some.2 ⟨parseFin_ofNat (by decide) _, parseFin_ofNat (by decide) _, parseDirection_eq_some.2 rfl,
      parseKind_ofNat _, parseKind_ofNat _, parseRelation_eq_some.2 rfl, isTest, parseTarget_eq_some.2 rfl,
      parseVerdict_eq_some.2 rfl, parseEvent_eventByte _⟩
  rw [transitionBytes_eq]
  cases test : t.test with
  | none => exact reads (parseTest_eq_some.2 (by rw [test]))
  | some x =>
    refine reads (parseTest_eq_some.2 ?_)
    rw [test]
    exact ⟨rfl, parseFin_eq_some.1 (parseFin_ofNat (by decide) x.offset), rfl, rfl⟩

/-- Settles O60. -/
theorem imagePartsAreReadFromTheirBytes : Obligations.ImagePartsAreReadFromTheirBytes := by
  unfold Obligations.ImagePartsAreReadFromTheirBytes
  intro verdictOf targetOf unexpectedOf levelOf eventCodeOf flagOf directionOf relationOf codeSpells badLevel
  have isVerdict (v : Verdict) : verdictOf v = verdictByte v := by cases v <;> rfl
  have isTarget (g : Target) : targetOf g = targetByte g := by cases g <;> rfl
  have isUnexpected (u : UnexpectedTarget) : unexpectedOf u = unexpectedTargetByte u := by
    cases u with
    | stay => rfl
    | move g => exact isTarget g
  have isLevel (e : Option EventSetting) : levelOf e = eventLevelByte e := by cases e <;> rfl
  have isCode (e : Option EventSetting) : eventCodeOf e = eventCodeByte e := by cases e <;> rfl
  have isFlag (b : Bool) : flagOf b = flagByte b := (flagByte_eq b).symm
  have isDirection (d : Direction) : directionOf d = directionByte d := by cases d <;> rfl
  have isRelation (r : Relation) : relationOf r = relationByte r := by cases r <;> rfl
  have readEvent (level code : Byte) (e : Option EventSetting) :
      parseEvent level code = some e ↔ level = eventLevelByte e ∧ codeSpells code e := parseEvent_eq_some_iff
  have refused (level code : Byte) : parseEvent level code = none ↔ badLevel level := parseEvent_eq_none
  refine ⟨fun h count hold overflow target verdict level code => ?_,
    fun t r index hi lo target level code kind limit => ?_,
    fun p t position fromState direction low high relation present offset mask value target verdict level code => ?_⟩
  · intro u list
    simp only [isVerdict, isUnexpected, isLevel, isCode, isFlag]
    refine ⟨headerBytes_eq h, ?_, ?_⟩
    · simp only [list, parseHeader_eq_some, parseFin_eq_some, parseFlag_eq_some, parseVerdict_eq_some,
        parseUnexpectedTarget_eq_some, readEvent, u]
    · simp only [list, parseHeader_eq_none, parseFin_eq_none, parseFlag_eq_none, parseVerdict_eq_none,
        parseUnexpectedTarget_eq_none, refused]
      rfl
  · intro list
    simp only [isTarget, isLevel, isCode, isFlag]
    refine ⟨stateBytes_eq t r, ?_, ?_⟩
    · simp only [list, parseState_eq_some, parseFin_eq_some, parseFlag_eq_some, parseTarget_eq_some, readEvent, and_assoc,
        ← BitVec.toNat_inj (x := word16 hi lo), word16_toNat, eq_comm (b := r.timeout.toNat)]
    · simp only [list, parseState_eq_none, parseFin_eq_none, parseFlag_eq_none, parseTarget_eq_none, refused]
      rfl
  · intro list
    simp only [isTarget, isVerdict, isLevel, isCode, isDirection, isRelation]
    refine ⟨?_, ?_, ?_⟩
    · rw [transitionBytes_eq]
      cases t.test <;> rfl
    · cases test : t.test <;>
        simp only [list, parseTransition_eq_some, test, parseFin_eq_some, parseDirection_eq_some, parseKind_eq_some,
          parseRelation_eq_some, parseTest_eq_some, parseTarget_eq_some, parseVerdict_eq_some, readEvent]
    · simp only [list, parseTransition_eq_none, parseFin_eq_none, parseDirection_eq_none, parseKind_eq_none,
        parseRelation_eq_none, parseTest_eq_none, parseTarget_eq_none, parseVerdict_eq_none, refused, or_assoc]
      rfl

end Sys2Proof.Machine
end

section
/-! SUPPORT. Match entries and collector settings in parameters and data (R41, R42, R140, R141), and the fields of two
and four bytes (R21): the statement O40. -/

namespace Sys2Proof.Machine

/-! ### Four-byte fields (R21) -/

theorem extractByte_eq {w : Nat} (x : BitVec w) (start : Nat) :
    x.extractLsb' start 8 = BitVec.ofNat 8 (x.toNat / 2 ^ start) := by
  rw [BitVec.extractLsb', Nat.shiftRight_eq_div_pow]

theorem bytes32_eq_ofNat (y : Word32) :
    bytes32 y = [BitVec.ofNat 8 (y.toNat / 16777216), BitVec.ofNat 8 (y.toNat / 65536), BitVec.ofNat 8 (y.toNat / 256),
      BitVec.ofNat 8 y.toNat] := by
  simp only [bytes32, extractByte_eq, Nat.reducePow, Nat.div_one]

/-! ### Match entries (R41, R42) -/

theorem formBytes_eq (n : Option Byte) : formBytes n = [if n = none then 1#8 else 0#8, n.getD 0#8] := by
  cases n <;> rfl

/-- The action byte and the slot byte of an action (R42). -/
def actionByte (a : Action) : Byte :=
  match a with
  | .pass => 0#8
  | .drop => 1#8
  | .watch _ => 2#8

def actionSlotByte (a : Action) : Byte :=
  match a with
  | .watch k => BitVec.ofNat 8 k.val
  | _ => 0#8

theorem actionBytes_eq (a : Action) : actionBytes a = [actionByte a, actionSlotByte a] := by cases a <;> rfl

theorem parseAction_actionByte (a : Action) : parseAction (actionByte a) (actionSlotByte a) = some a := by
  rw [parseAction_eq_some]
  cases a with
  | pass => rfl
  | drop => rfl
  | watch k => exact ⟨rfl, parseFin_eq_some.1 (parseFin_ofNat (by decide) k)⟩

theorem entryBytes_eq (e : MatchEntry) :
    entryBytes e = [flagByte e.valid, ingressPortsByte e.ports, if e.source = none then 1#8 else 0#8, e.source.getD 0#8,
      if e.dest = none then 1#8 else 0#8, e.dest.getD 0#8, BitVec.ofNat 8 e.kindLow.toNat, BitVec.ofNat 8 e.kindHigh.toNat,
      actionByte e.action, actionSlotByte e.action] ++ bytes32 e.hits := by
  rw [entryBytes, formBytes_eq, formBytes_eq, actionBytes_eq, BitVec.ofNat_toNat, BitVec.ofNat_toNat]
  rfl

section Entry

variable {index valid ports sourceForm sourceNode destForm destNode low high action slot : Byte}

theorem parseEntry_eq_some {i : EntryIndex} {e : MatchEntry} :
    parseEntry [index, valid, ports, sourceForm, sourceNode, destForm, destNode, low, high, action, slot] = some (i, e) ↔
      parseFin 48 index = some i ∧ parseFlag valid = some e.valid ∧ parseIngressPorts ports = some e.ports ∧
        parseNode false sourceForm sourceNode = some e.source ∧ parseNode true destForm destNode = some e.dest ∧
        parseKind low = some e.kindLow ∧ parseKind high = some e.kindHigh ∧ e.kindLow ≤ e.kindHigh ∧
        parseAction action slot = some e.action ∧ e.hits = 0 := by
  constructor
  · intro read
    simp only [parseEntry, Option.bind_eq_bind, Option.bind_eq_some_iff] at read
    obtain ⟨_, isIndex, _, isValid, _, isPorts, _, isSource, _, isDest, _, isLow, _, isHigh, _, isAction, read⟩ := read
    split at read
    · cases read
    · rename_i ordered
      cases read
      exact ⟨isIndex, isValid, isPorts, isSource, isDest, isLow, isHigh, BitVec.not_lt.1 ordered, isAction, rfl⟩
  · rintro ⟨isIndex, isValid, isPorts, isSource, isDest, isLow, isHigh, ordered, isAction, noHits⟩
    simp only [parseEntry, isIndex, isValid, isPorts, isSource, isDest, isLow, isHigh, isAction, Option.bind_eq_bind,
      Option.bind_some, if_neg (BitVec.not_lt.2 ordered), ← noHits]

/-- R41: the end of the list: the range of kinds, in ascending order, and the action. -/
theorem readKinds_eq_none {γ : Type} {f : BitVec 6 → BitVec 6 → Action → γ} :
    (parseKind low >>= fun l => parseKind high >>= fun h => parseAction action slot >>= fun a =>
        if h < l then none else some (f l h a)) = none ↔
      63 < low.toNat ∨ 63 < high.toNat ∨ high < low ∨ parseAction action slot = none := by
  cases isLow : parseKind low with
  | none => simpa using Or.inl (parseKind_eq_none.1 isLow)
  | some l =>
    have lowest := parseKind_eq_some.1 isLow
    have := l.isLt
    cases isHigh : parseKind high with
    | none => simpa using Or.inr (Or.inl (parseKind_eq_none.1 isHigh))
    | some h =>
      have highest := parseKind_eq_some.1 isHigh
      have := h.isLt
      have inRange : ¬63 < low.toNat ∧ ¬63 < high.toNat := by omega
      have ordered : high < low ↔ h < l := by rw [BitVec.lt_def, BitVec.lt_def, lowest, highest]
      cases parseAction action slot with
      | none => simp
      | some a => by_cases crossed : h < l <;> simp [inRange, ordered, crossed]

theorem parseEntry_eq_none :
    parseEntry [index, valid, ports, sourceForm, sourceNode, destForm, destNode, low, high, action, slot] = none ↔
      parseFin 48 index = none ∨ parseFlag valid = none ∨ parseIngressPorts ports = none ∨
        parseNode false sourceForm sourceNode = none ∨ parseNode true destForm destNode = none ∨
        63 < low.toNat ∨ 63 < high.toNat ∨ high < low ∨ parseAction action slot = none :=
  bind_eq_none_or fun _ => bind_eq_none_or fun _ => bind_eq_none_or fun _ => bind_eq_none_or fun _ =>
    bind_eq_none_or fun _ => readKinds_eq_none

end Entry

theorem parseEntry_entryBytes (i : EntryIndex) {e : MatchEntry} (ordered : e.kindLow ≤ e.kindHigh)
    (named : e.source ≠ some 255#8) :
    parseEntry (BitVec.ofNat 8 i.val :: (entryBytes e).take 10) = some (i, { e with hits := 0 }) := by
  have form (allow : Bool) (n : Option Byte) (h : allow = true ∨ n ≠ some 255#8) :
      parseNode allow (if n = none then 1#8 else 0#8) (n.getD 0#8) = some n := by
    rw [parseNode_eq_some]
    cases n with
    | none => rfl
    | some b => exact ⟨rfl, rfl, by simpa using h⟩
  rw [entryBytes_eq]
  exact parseEntry_eq_some.2 ⟨parseFin_ofNat (by decide) i, parseFlag_eq_some.2 rfl, parseIngressPorts_eq_some.2 rfl,
    form false e.source (Or.inr named), form true e.dest (Or.inl rfl), parseKind_ofNat _, parseKind_ofNat _,
    ordered, parseAction_actionByte _, rfl⟩

/-! ### Collector settings (R140, R141) -/

/-- R141: the collector that the form, node and port bytes name. -/
def parseReportTarget (form node port : Byte) : Option (Option (Byte × Port)) := do
  let none_ ← parseFlag form
  if none_ then some none
  else if node = Config.broadcast then none
  else (parsePort port).map (fun p => some (node, p))

section Collector

variable {form node port mode timeoutHi timeoutLo limit gapHi gapLo : Byte}

theorem parseReportTarget_unread (outside : 1 < form.toNat) : parseReportTarget form node port = none := by
  rw [parseReportTarget, parseFlag_eq_none.2 outside]
  rfl

theorem parseReportTarget_none : parseReportTarget 1#8 node port = some none := rfl

theorem parseReportTarget_broadcast : parseReportTarget 0#8 255#8 port = none := rfl

theorem parseReportTarget_named (named : node ≠ 255#8) :
    parseReportTarget 0#8 node port = (parsePort port).map (fun p => some (node, p)) := if_neg named

/-- The form byte by the values that are read. -/
theorem form_cases (form : Byte) : form = 0#8 ∨ form = 1#8 ∨ 1 < form.toNat := by
  revert form
  decide

theorem parseReportTarget_eq_some {target : Option (Byte × Port)} :
    parseReportTarget form node port = some target ↔
      match target with
      | none => form = 1#8
      | some (n, p) => form = 0#8 ∧ node = n ∧ n ≠ 255#8 ∧ port = portByte p := by
  rcases form_cases form with rfl | rfl | outside
  · by_cases named : node = 255#8
    · subst named
      rw [parseReportTarget_broadcast]
      rcases target with _ | ⟨n, p⟩
      · simp
      · simp only [reduceCtorEq, false_iff, true_and]
        rintro ⟨rfl, named, -⟩
        exact named rfl
    · rw [parseReportTarget_named named]
      rcases target with _ | ⟨n, p⟩
      · simp
      · simp only [Option.map_eq_some_iff, Option.some.injEq, Prod.mk.injEq, true_and, ← parsePort_eq_some]
        constructor
        · rintro ⟨p', isPort, rfl, rfl⟩
          exact ⟨rfl, named, isPort⟩
        · rintro ⟨rfl, -, isPort⟩
          exact ⟨p, isPort, rfl, rfl⟩
  · rw [parseReportTarget_none]
    rcases target with _ | ⟨n, p⟩ <;> simp
  · have not0 := ne_ofNat outside 0 (by omega)
    have not1 := ne_ofNat outside 1 (by omega)
    rw [parseReportTarget_unread outside]
    rcases target with _ | ⟨n, p⟩ <;> simp [not0, not1]

theorem parseReportTarget_eq_none :
    parseReportTarget form node port = none ↔ 1 < form.toNat ∨ (form = 0#8 ∧ (node = 255#8 ∨ 1 < port.toNat)) := by
  rcases form_cases form with rfl | rfl | outside
  · by_cases named : node = 255#8
    · subst named
      simp [parseReportTarget_broadcast]
    · simp [parseReportTarget_named named, named, parsePort_eq_none]
  · simp [parseReportTarget_none]
  · simp [parseReportTarget_unread outside, outside]

/-- R141: the settings after the target. -/
theorem parseCollector_eq :
    parseCollector [form, node, port, mode, timeoutHi, timeoutLo, limit, gapHi, gapLo] =
      (parseReportTarget form node port >>= fun target => parseFlag mode >>= fun noAck => parseFin 8 limit >>= fun limit =>
        if 10 ≤ (word16 timeoutHi timeoutLo).toNat ∧ (word16 timeoutHi timeoutLo).toNat ≤ 1000 ∧
            (word16 gapHi gapLo).toNat ≤ 1000 then
          some ⟨target, if noAck then .noAck else .ack, word16 timeoutHi timeoutLo, BitVec.ofNat 3 limit.val,
            word16 gapHi gapLo⟩
        else none) := by
  simp only [parseCollector, parseReportTarget, Option.bind_eq_bind]
  cases parseFlag form <;> rfl

theorem parseCollector_eq_some {c : Collector} :
    parseCollector [form, node, port, mode, timeoutHi, timeoutLo, limit, gapHi, gapLo] = some c ↔
      parseReportTarget form node port = some c.target ∧
        parseFlag mode = some (decide (c.ackMode = .noAck)) ∧ c.retryTimeout = word16 timeoutHi timeoutLo ∧ limit.toNat = c.retryLimit.toNat ∧
        c.pacingGap = word16 gapHi gapLo ∧ 10 ≤ (word16 timeoutHi timeoutLo).toNat ∧
        (word16 timeoutHi timeoutLo).toNat ≤ 1000 ∧ (word16 gapHi gapLo).toNat ≤ 1000 := by
  rw [parseCollector_eq, ← parseFin_limit (n := 8) rfl]
  constructor
  · intro read
    simp only [Option.bind_eq_bind, Option.bind_eq_some_iff] at read
    obtain ⟨_, isTarget, noAck, isMode, _, isLimit, read⟩ := read
    split at read
    · rename_i inRange
      cases read
      have same : decide ((if noAck then AckMode.noAck else AckMode.ack) = .noAck) = noAck := by cases noAck <;> rfl
      exact ⟨isTarget, by rw [same, isMode], rfl, ⟨_, isLimit, rfl⟩, rfl, inRange⟩
    · cases read
  · rintro ⟨isTarget, isMode, isTimeout, ⟨_, isLimit, same⟩, isGap, inRange⟩
    have mode_eq : (if decide (c.ackMode = .noAck) then AckMode.noAck else AckMode.ack) = c.ackMode := by
      cases c.ackMode <;> rfl
    simp only [isTarget, isMode, isLimit, Option.bind_eq_bind, Option.bind_some, mode_eq, same]
    rw [if_pos inRange, ← isTimeout, ← isGap]

theorem parseCollector_eq_none :
    parseCollector [form, node, port, mode, timeoutHi, timeoutLo, limit, gapHi, gapLo] = none ↔
      parseReportTarget form node port = none ∨ parseFlag mode = none ∨ parseFin 8 limit = none ∨
        ¬(10 ≤ (word16 timeoutHi timeoutLo).toNat ∧ (word16 timeoutHi timeoutLo).toNat ≤ 1000 ∧
            (word16 gapHi gapLo).toNat ≤ 1000) := by
  rw [parseCollector_eq]
  exact bind_eq_none_or fun _ => bind_eq_none_or fun _ => bind_eq_none_or fun _ => ite_eq_right_iff.trans (by simp)

end Collector

/-- Settles O40. -/
theorem settingsAreReadBack : Obligations.SettingsAreReadBack := by
  refine ⟨fun x y hi lo => ⟨bytes16_eq_ofNat x, word16_toNat hi lo, bytes32_eq_ofNat y⟩, fun e => ?_,
    fun index valid ports sourceForm sourceNode destForm destNode low high action slot => ?_,
    fun i e ordered named => ⟨parseEntry_entryBytes i ordered named, ?_, ?_⟩,
    ⟨parseHeader_headerBytes, parseState_stateBytes, parseTransition_transitionBytes⟩,
    fun form node port mode timeoutHi timeoutLo limit gapHi gapLo => ?_⟩
  · rw [entryBytes_eq, flagByte_eq]
    rfl
  · intro list spells
    have spelled (allow : Bool) (form node : Byte) (n : Option Byte) :
        parseNode allow form node = some n ↔ spells form node n ∧ (allow = true ∨ n ≠ some 255#8) := by
      rw [parseNode_eq_some]
      cases n <;> simp [spells, and_assoc]
    refine ⟨fun i e => ?_, ?_⟩
    · simp only [list, parseEntry_eq_some, parseFin_eq_some, parseFlag_eq_some, flagByte_eq, parseIngressPorts_eq_some,
        spelled, parseKind_eq_some, parseAction_eq_some, Bool.false_eq_true, false_or, true_or, and_true, and_assoc]
      rfl
    · simp only [list, parseEntry_eq_none, parseFin_eq_none, parseFlag_eq_none, parseIngressPorts_eq_none,
        parseNode_eq_none, parseAction_eq_none, Bool.true_eq_false, false_and, and_false, or_false, true_and, or_assoc]
      rfl
  · rw [entryBytes_eq]
    rfl
  · rw [entryBytes_eq]
    rfl
  · intro list timeout gap inRange
    have modeByte (m : AckMode) : flagByte (decide (m = .noAck)) = match m with
        | .ack => 0#8
        | .noAck => 1#8 := by cases m <;> rfl
    refine ⟨fun c => ?_, ?_⟩
    · simp only [list, parseCollector_eq_some, parseReportTarget_eq_some, parseFlag_eq_some, modeByte]
      rfl
    · simp only [list, parseCollector_eq_none, parseReportTarget_eq_none, parseFlag_eq_none, parseFin_eq_none, or_assoc]
      rfl

end Sys2Proof.Machine
end
